-- ==== Sys2Proof/Word.lean ====
section
/-! DEFINITION. The word types of the TQ16: the widths the manual fixes (R192, 00_scope "Quay time"). -/

namespace Sys2Proof

/-- One byte of a frame (R192). -/
abbrev Byte := BitVec 8

/-- An Ethernet address, 48 bits. -/
abbrev Address := BitVec 48

/-- An EtherType, 16 bits. -/
abbrev EtherType := BitVec 16

/-- Quay time: milliseconds since the last cold reset, modulo 2^32 (00_scope, "Quay time"). -/
abbrev QuayTime := BitVec 32

/-- A frame counter or byte counter: 32 bits, wrapping (00_scope, "Counters"). -/
abbrev Count32 := BitVec 32

/-- A fault counter or event counter: 16 bits, saturating (00_scope, "Counters"). -/
abbrev Count16 := BitVec 16

/-- A sequence number: of a bearer frame, a hold order, a notice frame or a summary frame, 16 bits, wrapping. -/
abbrev Sequence := BitVec 16

/-- A cell of the Cell Table, 0-31 (2.2). -/
abbrev Cell := Fin 32

/-- A segment of quay, 0-63 (4.2). -/
abbrev Segment := Fin 64

/-- A crane link, 0-15 (3.1). -/
abbrev Link := Fin 16

/-- A reefer slot, 0-2047 (6.1). -/
abbrev Slot := Fin 2048

/-- An egress class, 0-3; 0 is the most urgent (00_scope, terms). -/
abbrev Class := Fin 4

end Sys2Proof
end

