-- ==== Sys2Proof/Syntax.lean ====
section
/-! DEFINITION. The commands of the TQ16, one constructor of `Instr` for each row of spec/opcode_table.json, with
their operands. A management command carries its fields as a request frame carries them (R192, R196, R198), so that
every value the wire can hold, in range or out of it, is an operand. -/

namespace Sys2Proof

/-- The five ports: quay ports Q0 to Q3 and the yard port Y (00_scope, "Ports"). -/
inductive Port where
  | q0 | q1 | q2 | q3 | y
deriving DecidableEq, Repr

/-- The direction of a bearer frame: UP from the quay ports to the yard port, DOWN the other way. -/
inductive Direction where
  | up | down
deriving DecidableEq, Repr

/-- An Ethernet frame as a port receives or sends it: the two addresses, the EtherType and the data field. The frame
check sequence is not held: the port checks it on receipt and computes it anew on sending (R24, R42). -/
structure Frame where
  dst : Address
  src : Address
  etherType : EtherType
  data : List Byte
deriving DecidableEq, Repr

/-- One command of a request's command list: its code, its carried length as received, and the bytes that stand after
its 4-byte command header, as many as the carried length gives, a length below 4 taken as 4 (R196, R197). -/
structure WireCommand where
  code : Byte
  carried : BitVec 16
  args : List Byte
deriving DecidableEq, Repr

/-- The configuration part of a CELLS entry as carried (R198). -/
structure CellFields where
  present : Byte
  quayPort : Byte
  label : BitVec 16
deriving DecidableEq, Repr

/-- The configuration part of a BEARERS entry as carried (R198). `special` is the field at offset 7. -/
structure BearerFields where
  kind : Byte
  cls : BitVec 2
  coarse : Bool
  demote : Bool
  absorb : Bool
  rate : BitVec 16
  burst : Byte
  homeCell : Byte
  segment : Byte
  special : BitVec 16
deriving DecidableEq, Repr

/-- The configuration part of a CRANES entry as carried (R198); `template` is the 64-byte field at offset 22. -/
structure CraneFields where
  enable : Byte
  threshold : Byte
  bearer : BitVec 16
  period : BitVec 16
  jitter : BitVec 16
  recovery : Byte
  templateLength : Byte
  overlap : BitVec 16
  window : BitVec 16
  tokenA : BitVec 16
  tokenB : BitVec 16
  degradedLevel : Byte
  holdLevel : Byte
  releasedLevel : Byte
  pathPoorLevel : Byte
  template : List Byte
deriving DecidableEq, Repr

/-- A PROFILES entry as carried (R198): edge selects and levels in the order HIGH, LOW, POWER, ALARM, STALE. -/
structure ProfileFields where
  highMargin : Byte
  lowMargin : Byte
  hysteresis : Byte
  spikeStep : Byte
  band : Byte
  reportDelta : Byte
  staleTime : BitVec 16
  lostTime : BitVec 32
  highEdges : Byte
  lowEdges : Byte
  powerEdges : Byte
  alarmEdges : Byte
  staleEdges : Byte
  highLevel : Byte
  lowLevel : Byte
  powerLevel : Byte
  alarmLevel : Byte
  staleLevel : Byte
deriving DecidableEq, Repr

/-- The configuration part of a REEFERS entry as carried (R198). -/
structure ReeferFields where
  registered : Byte
  mark : List Byte
  profile : Byte
  segment : Byte
deriving DecidableEq, Repr

/-- One matcher of a Capture Arm as carried, 12 bytes (R196). -/
structure MatcherFields where
  enable : Byte
  portMask : Byte
  direction : Byte
  kindMask : Byte
  dispositionMask : BitVec 16
  craneState : Byte
  lo : BitVec 16
  hi : BitVec 16
deriving DecidableEq, Repr

/-- The capture configuration a Capture Arm carries (R174, R196). -/
structure CaptureFields where
  a : MatcherFields
  b : MatcherFields
  mode : Byte
  filter : Byte
  n : BitVec 16
  post : Byte
deriving DecidableEq, Repr

/-- The commands and events of the TQ16, one constructor for each row of spec/opcode_table.json, in its order. -/
inductive Instr where
  /-- Power-up or the reset input (R22). -/
  | coldReset
  /-- A frame is received on a port; `checkRight` says whether its frame check sequence is right (R1, R24). -/
  | frameArrival (port : Port) (frame : Frame) (checkRight : Bool)
  /-- The transmission in progress on a port completes (R42). -/
  | transmissionCompletion (port : Port)
  /-- A port loses link; `receiving` says whether the loss cuts off a frame's reception (R24, R25). -/
  | linkLoss (port : Port) (receiving : Bool)
  /-- A port gains link (R26). -/
  | linkGain (port : Port)
  /-- The uplink or downlink deadline of a crane link expires (R55). -/
  | deadlineExpiry (link : Link) (direction : Direction)
  /-- The release expiry of a link expires (R69). -/
  | releaseExpiry (link : Link)
  /-- The next hold order time of a link expires (R63). -/
  | holdOrderTimeExpiry (link : Link)
  /-- The overlap expiry of a link expires (R89). -/
  | overlapExpiry (link : Link)
  /-- The age deadline of a coverage entry expires (R104). -/
  | ageDeadlineExpiry (entry : Fin 2048)
  /-- The stale deadline of a slot expires (R129). -/
  | staleDeadlineExpiry (slot : Slot)
  /-- The lost deadline of a slot expires (R130). -/
  | lostDeadlineExpiry (slot : Slot)
  /-- The summary timer expires (R140). -/
  | summaryTimerExpiry
  /-- The next frame step of a summary pass (R143). -/
  | frameStep
  /-- The pacing deadline expires (R157). -/
  | pacingDeadlineExpiry
  /-- Identify (R188). -/
  | identify
  /-- Read Entries: table code, first index, count (R186). -/
  | readEntries (table : Byte) (first count : Nat)
  /-- Write Entry on SETTINGS, of a setting with no behaviour of its own (R187). -/
  | writeSettings (index : Nat) (value : BitVec 48)
  /-- Write Entry on SETTINGS index 0, the bearer type (R2). -/
  | bearerTypeWrite (value : BitVec 48)
  /-- Write Entry on SETTINGS index 2 + 4p + c, a queue limit (R34). -/
  | queueLimitWrite (port : Port) (cls : Class) (value : BitVec 48)
  /-- Write Entry on SETTINGS index 50, the notice floor (R153). -/
  | noticeFloorWrite (value : BitVec 48)
  /-- Write Entry on SETTINGS index 48, the summary interval (R140). -/
  | summaryIntervalWrite (value : BitVec 48)
  /-- Write Entry on SETTINGS index 52, the notice destination (R156). -/
  | noticeDestinationWrite (value : BitVec 48)
  /-- Write Entry on MANAGERS (R182). -/
  | writeManagers (index : Nat) (address : Address)
  /-- Write Entry on CELLS (R29). -/
  | writeCells (index : Nat) (fields : CellFields)
  /-- Write Entry on GEOMETRY (R77). -/
  | writeGeometry (bay : Nat) (segment : Byte)
  /-- Write Entry on BEARERS (R18). -/
  | writeBearers (index : Nat) (fields : BearerFields)
  /-- Write Entry on CRANES (R46). -/
  | writeCranes (index : Nat) (fields : CraneFields)
  /-- Write Entry on PATHS (R79). -/
  | writePaths (index : Nat) (primary alternate : Byte)
  /-- Write Entry on PROFILES (R113). -/
  | writeProfiles (index : Nat) (fields : ProfileFields)
  /-- Write Entry on REEFERS (R134). -/
  | writeReefers (index : Nat) (fields : ReeferFields)
  /-- Write Entry on COVERAGE (R107). -/
  | writeCoverage (index : Nat)
  /-- Clear Entries on SETTINGS (R187). -/
  | clearSettings (first count : Nat)
  /-- Clear Entries on MANAGERS (R182). -/
  | clearManagers (first count : Nat)
  /-- Clear Entries on CELLS (R29). -/
  | clearCells (first count : Nat)
  /-- Clear Entries on GEOMETRY (R77). -/
  | clearGeometry (first count : Nat)
  /-- Clear Entries on BEARERS (R21). -/
  | clearBearers (first count : Nat)
  /-- Clear Entries on CRANES (R50). -/
  | clearCranes (first count : Nat)
  /-- Clear Entries on PATHS (R79). -/
  | clearPaths (first count : Nat)
  /-- Clear Entries on PROFILES (R114). -/
  | clearProfiles (first count : Nat)
  /-- Clear Entries on REEFERS (R135). -/
  | clearReefers (first count : Nat)
  /-- Clear Entries on COVERAGE (R108). -/
  | clearCoverage (first count : Nat)
  /-- Commit Paths: crane mask, apply-now (R81). -/
  | commitPaths (mask : BitVec 16) (applyNow : Bool)
  /-- Crane Hold: crane mask (R62). -/
  | craneHold (mask : BitVec 16)
  /-- Statistics Read: group code, first index, count (R189). -/
  | statisticsRead (group : Byte) (first count : Nat)
  /-- Statistics Clear (R189). -/
  | statisticsClear
  /-- Capture Arm (R174). -/
  | captureArm (fields : CaptureFields)
  /-- Capture Stop (R175). -/
  | captureStop
  /-- Capture Read: offset, count (R176). -/
  | captureRead (offset count : Nat)
  /-- Capture Clear Hits (R175). -/
  | captureClearHits
  /-- Restart (R190). -/
  | restart
  /-- A command that reaches no owner: its code is not known, or it is too short for its code or table, or a Write
  Entry or Clear Entries that names no table the part knows (R183 tests 2 to 4). -/
  | badCommand (command : WireCommand)
deriving DecidableEq, Repr

end Sys2Proof
end

