-- ==== Sys2Proof/Config.lean ====
section
/-! DEFINITION. What an implementation of the TQ16 fixes: the sizes the manual states, the identity store's values at
manufacture (R188, log entry 6), and the choices the manual leaves open, as constants without a body (log entries
11 and 12). -/

namespace Sys2Proof

/-- The identity store (R188): set at manufacture, written by no command. -/
structure Identity where
  vendorCode : BitVec 16
  partCode : BitVec 16
  revision : BitVec 16
  station : Address
  managementEtherType : EtherType
  defaultBearerEtherType : EtherType
deriving DecidableEq, Repr

/-- Fields of a written entry in which a value may stand that names nothing (log entry 12). -/
inductive StrayField where
  /-- Bits 5-7 of a matcher's port mask. -/
  | portMask
  /-- Bits 6 and 7 of a matcher's kind mask. -/
  | kindMask
  /-- Bit 15 of a matcher's disposition mask. -/
  | dispositionMask
  /-- Bytes 7-8 of a BEARERS entry of kind ABSENT or GENERAL. -/
  | kindSpecific
  /-- The absorb bit of a BEARERS entry whose kind is not REEFER. -/
  | absorb
deriving DecidableEq, Repr

/-- The identity of the modelled part. DESIGN CHOICE, unsafe (log entry 6): the manual gives no values. Statements
about every state hold for every identity, since the store is held in State. -/
def Config.identity : Identity :=
  { vendorCode := 0x5450#16
    partCode := 0x0016#16
    revision := 0x0001#16
    station := 0x02A016000001#48
    managementEtherType := 0x88B5#16
    defaultBearerEtherType := 0x88B6#16 }

/-- How a flag byte other than 0 or 1 is taken in a CELLS or REEFERS write: refused (none), or read as yes or no.
FREE (log entry 11): the manual gives the flag the values yes and no and states no result for another byte. -/
opaque Config.oddFlag : Byte → Option Bool

/-- Whether a value that names nothing, standing in such a field, makes the command BAD_VALUE; otherwise it is
ignored. FREE (log entry 12). -/
opaque Config.refusesStray : StrayField → Nat → Bool

/-- The blocks of the Frame Store (R31). -/
def Config.blocks : Nat := 16384

/-- Byte times of 0.8 ns in one millisecond, at 10 Gb/s (R42). -/
def Config.byteTimesPerMs : Nat := 1250000

end Sys2Proof
end

