-- ==== Sys2Proof/Machine/Table.lean ====
section
/-! DEFINITION. A keyed table as plain data in one canonical form: the value every unlisted key has, and the entries
that differ from it, keys rising. Equal tables are equal data. -/

namespace Sys2Proof.Machine

/-- A table from indices to values. -/
structure Table (α : Type) where
  /-- What an unlisted index holds. -/
  blank : α
  /-- The indices whose value differs from `blank`, rising. -/
  listed : List (Nat × α)
deriving DecidableEq, Repr

/-- The value listed for an index, if any. -/
def Table.lookup {α : Type} : List (Nat × α) → Nat → Option α
  | [], _ => none
  | (j, v) :: rest, k => if j = k then some v else Table.lookup rest k

/-- The list without an index. -/
def Table.without {α : Type} : List (Nat × α) → Nat → List (Nat × α)
  | [], _ => []
  | (j, v) :: rest, k => if j = k then Table.without rest k else (j, v) :: Table.without rest k

/-- The list with an index put at its place. -/
def Table.place {α : Type} : List (Nat × α) → Nat → α → List (Nat × α)
  | [], k, v => [(k, v)]
  | (j, w) :: rest, k, v => if k < j then (k, v) :: (j, w) :: rest else (j, w) :: Table.place rest k v

/-- A table all of whose indices hold one value. -/
def Table.all {α : Type} (a : α) : Table α := { blank := a, listed := [] }

/-- The value at an index. -/
def Table.get {α : Type} (t : Table α) (k : Nat) : α := (Table.lookup t.listed k).getD t.blank

/-- The table with one index's value replaced. -/
def Table.set {α : Type} [DecidableEq α] (t : Table α) (k : Nat) (v : α) : Table α :=
  { blank := t.blank
    listed :=
      if v = t.blank then Table.without t.listed k else Table.place (Table.without t.listed k) k v }

/-- The table with one index's value changed by a function. -/
def Table.modify {α : Type} [DecidableEq α] (t : Table α) (k : Nat) (f : α → α) : Table α := t.set k (f (t.get k))

/-- The table with every index's value changed by a function. -/
def Table.map {α : Type} [DecidableEq α] (t : Table α) (f : α → α) : Table α :=
  t.listed.foldr (fun e r => r.set e.1 (f e.2)) (.all (f t.blank))

/-- The table with the indices of a range, first to first + count - 1, set to one value, in index order. -/
def Table.fill {α : Type} [DecidableEq α] (t : Table α) (first : Nat) : Nat → α → Table α
  | 0, _ => t
  | n + 1, v => (t.set first v).fill (first + 1) n v

/-- The table with the value at each index of a range changed by a function, in index order. -/
def Table.modifyRange {α : Type} [DecidableEq α] (t : Table α) (first : Nat) : Nat → (α → α) → Table α
  | 0, _ => t
  | n + 1, f => (t.modify first f).modifyRange (first + 1) n f

/-- The number of listed indices below a bound whose value meets a test. -/
def Table.countListed {α : Type} (t : Table α) (bound : Nat) (p : α → Bool) : Nat :=
  (t.listed.filter fun e => decide (e.1 < bound) && p e.2).length

/-- The number of indices below a bound whose value meets a test. -/
def Table.countBelow {α : Type} (t : Table α) (bound : Nat) (p : α → Bool) : Nat :=
  t.countListed bound p + (if p t.blank then bound - t.countListed bound (fun _ => true) else 0)

/-- The canonical form: keys strictly rising, and nothing listed equal to the blank. -/
def Table.wfFrom {α : Type} [DecidableEq α] (blank : α) : List (Nat × α) → Bool
  | [] => true
  | (_, v) :: [] => decide (v ≠ blank)
  | (j, v) :: (k, w) :: rest => decide (v ≠ blank) && decide (j < k) && Table.wfFrom blank ((k, w) :: rest)

/-- Whether a table is in canonical form. -/
def Table.wf {α : Type} [DecidableEq α] (t : Table α) : Bool := Table.wfFrom t.blank t.listed

end Sys2Proof.Machine
end

