-- ==== Sys2Proof/Machine/State.lean ====
section
/-! DEFINITION. The state of the TQ16: everything its chapters give the ten blocks, block by block, the queue of
commands, and the machine right after a cold reset. -/

namespace Sys2Proof.Machine

/-! ### Ingress Classifier (chapter 1) and Cell Table (2.2) -/

/-- What a descriptor's bearer carries and which block receives its frames, with the fields of that kind (1.3). -/
inductive Treatment where
  | absent
  | general (segment : Option Segment)
  | crane (link : Link)
  | reefer (slot : Slot) (absorb : Bool)
  | redirect (target : BitVec 12)
deriving DecidableEq, Repr

/-- A descriptor of the Bearer Table (1.3). -/
structure Descriptor where
  treatment : Treatment
  /-- The descriptor class, 0-3. -/
  cls : Class
  /-- The policer refill rate, 0-4095. -/
  rate : Nat
  /-- The granularity G. -/
  coarse : Bool
  /-- The bucket capacity in units set by G, 1-255. -/
  burst : Nat
  /-- The excess action: DEMOTE when set, DROP when clear. -/
  demote : Bool
  homeCell : Option Cell
  touched : Bool
  /-- The bucket level in bytes. -/
  level : Nat
  /-- Quay time of the last refill. -/
  stamp : QuayTime
  framesPassed : Count32
  bytesPassed : Count32
  framesPoliced : Count32
deriving DecidableEq, Repr

/-- The cold descriptor (R22); descriptor 0 reads so at all times. -/
def Descriptor.cold : Descriptor :=
  { treatment := .absent, cls := 0, rate := 0, coarse := false, burst := 1, demote := false, homeCell := none,
    touched := false, level := 0, stamp := 0, framesPassed := 0, bytesPassed := 0, framesPoliced := 0 }

/-- An entry of the Cell Table (2.2). `portUp` is kept by the Frame Store (R28). -/
structure CellEntry where
  present : Bool
  quayPort : Fin 4
  label : BitVec 16
  portUp : Bool
deriving DecidableEq, Repr

/-- An absent cell (R44). -/
def CellEntry.cold : CellEntry := { present := false, quayPort := 0, label := 0, portUp := false }

/-- The classifier's counters of one port (R17). -/
structure ArrivalCounts where
  framesReceived : Count32
  foreign : Count16
  malformed : Count16
deriving DecidableEq, Repr

/-- The classifier's counters after a cold reset (R22). -/
def ArrivalCounts.zero : ArrivalCounts := { framesReceived := 0, foreign := 0, malformed := 0 }

/-- The Ingress Classifier and the Cell Table. -/
structure Classifier where
  /-- The Bearer Table, by bearer number 0-4095. -/
  bearers : Table Descriptor
  /-- The Cell Table, by cell 0-31. -/
  cells : Table CellEntry
  /-- The counters of R17, by port number. -/
  counts : Table ArrivalCounts
deriving DecidableEq, Repr

/-! ### What the classifier hands on (1.7) -/

/-- A radio trailer: serving quality and neighbour pairs of cell and quality, in the order received (R193). -/
structure Trailer where
  serving : Byte
  pairs : List (Byte × Byte)
deriving DecidableEq, Repr

/-- The boom state of a crane (3.1). -/
inductive Boom where
  | up | down | unknown
deriving DecidableEq, Repr

/-- A crane control record (R193). -/
structure ControlRecord where
  bay : Byte
  boom : Boom
  token : Option (BitVec 16)
deriving DecidableEq, Repr

/-- A reefer report record as carried (R193); a temperature holding the sentinel absent is none (R192). -/
structure Report where
  mark : List Byte
  counter : Byte
  supply : Option Int
  returnTemp : Option Int
  setpoint : Option Int
  powerCode : Byte
  alarmCount : Nat
  alarms : List Byte
deriving DecidableEq, Repr

/-- The record of a frame, when its governing kind has one that the direction calls for (R13). -/
inductive FrameRecord where
  | control (record : ControlRecord)
  | report (record : Report)
deriving DecidableEq, Repr

/-- The supervision state of a crane link (3.1). -/
inductive CraneState where
  | idle | arming | live | degraded | hold | releasing
deriving DecidableEq, Repr

/-- The classification result of a frame that passed, which travels with the frame (R13, R52). -/
structure Classification where
  port : Port
  direction : Direction
  /-- The bearer number as read from the header. -/
  bearer : BitVec 12
  /-- The sequence as read from the header. -/
  sequence : Sequence
  requested : Class
  /-- The cell field as read. -/
  cell : Byte
  /-- The governing descriptor's index. -/
  governing : Nat
  /-- The governing descriptor's kind and kind-specific fields. -/
  treatment : Treatment
  /-- The effective class. -/
  cls : Class
  /-- The frame length: 10 plus the payload length. -/
  length : Nat
  home : Option Cell
  /-- The radio trailer of an UP frame that carries one. -/
  trailer : Option Trailer
  record : Option FrameRecord
  /-- The state its link had when the frame reached the supervisor, before any transition of the frame's own (R52);
  none for a frame that does not reach it. -/
  crane : Option CraneState
deriving DecidableEq, Repr

/-! ### Frame Store and Egress Scheduler (chapter 2) -/

/-- What a queued frame is: a received frame keeps its classification result (R13); R59 withdraws the frames of a
bearer, and R45 spares the reply of the request that carried a Restart. -/
inductive Origin where
  /-- A received frame that no later rule singles out. -/
  | forwarded (result : Classification)
  /-- A copy of a downlink control frame: a DOWN frame governed by a CRANE descriptor. -/
  | control (result : Classification)
  | holdOrder
  | notice
  | summary
  | reply
  /-- The reply of a request whose Restart has been executed and has not yet taken effect. -/
  | restartReply
deriving DecidableEq, Repr

/-- An entry of an egress queue: a resident frame as it will be sent, with its blocks (2.5). -/
structure QueueEntry where
  frame : Frame
  blocks : Nat
  origin : Origin
deriving DecidableEq, Repr

/-- An egress queue with its counters (R35, R43). -/
structure Queue where
  /-- The waiting entries, the head first. -/
  entries : List QueueEntry
  admitted : Count32
  fullRefusals : Count32
  poolRefusals : Count32
  linkDownRefusals : Count32
  flushed : Count32
deriving DecidableEq, Repr

/-- An empty queue with counters 0 (R44). -/
def Queue.cold : Queue :=
  { entries := [], admitted := 0, fullRefusals := 0, poolRefusals := 0, linkDownRefusals := 0, flushed := 0 }

/-- A transmission in progress (R42). -/
structure Transmission where
  entry : QueueEntry
  /-- The class of the queue the frame was selected from. -/
  cls : Class
  /-- The model's own: byte times of 0.8 ns until the completion. -/
  left : Nat
deriving DecidableEq, Repr

/-- A port: its link state, transmitter, scheduler and counters (R24, R40, R43). -/
structure PortState where
  /-- The link state: UP when set. -/
  up : Bool
  tx : Option Transmission
  /-- The turn class t, 1-3. -/
  turn : Class
  /-- The credit k. -/
  credit : Nat
  receiveErrors : Count16
  linkLosses : Count16
  framesSent : Count32
  bytesSent : Count32
deriving DecidableEq, Repr

/-- A port after a cold reset (R44). -/
def PortState.cold : PortState :=
  { up := false, tx := none, turn := 3, credit := 0, receiveErrors := 0, linkLosses := 0, framesSent := 0,
    bytesSent := 0 }

/-- The Frame Store and Egress Scheduler. -/
structure FrameStore where
  /-- By port number, 0-3 for Q0-Q3 and 4 for Y. -/
  ports : Table PortState
  /-- By 4 × port number + class. -/
  queues : Table Queue
  /-- The free count (R33). -/
  free : Nat
  /-- The least free mark (R33). -/
  least : Nat
  /-- The yard port's no cell counter (R30). -/
  noCell : Count32
deriving DecidableEq, Repr

/-- The Frame Store after a cold reset (R44). -/
def FrameStore.cold : FrameStore :=
  { ports := .all .cold, queues := .all .cold, free := Config.blocks, least := Config.blocks, noCell := 0 }

/-! ### Crane Link Supervisor (chapter 3) and Crane Path Selector (chapter 4) -/

/-- Why a link is held (3.1). -/
inductive HoldReason where
  | none | deadline | managed
deriving DecidableEq, Repr

/-- The configuration fields of a crane link (3.1). -/
structure CraneConfig where
  enable : Bool
  bearer : BitVec 12
  /-- The cycle period P in ms. -/
  period : Nat
  /-- The jitter allowance J in ms. -/
  jitter : Nat
  /-- The hold threshold K. -/
  threshold : Nat
  /-- The recovery count Rc. -/
  recovery : Nat
  /-- The overlap window O in ms. -/
  overlap : Nat
  /-- The release window W in ms. -/
  window : Nat
  tokenA : BitVec 16
  tokenB : BitVec 16
  template : List Byte
  degradedLevel : Nat
  holdLevel : Nat
  releasedLevel : Nat
  pathPoorLevel : Nat
deriving DecidableEq, Repr

/-- The cold configuration of a crane link (R72). -/
def CraneConfig.cold : CraneConfig :=
  { enable := false, bearer := 0, period := 100, jitter := 0, threshold := 3, recovery := 10, overlap := 0,
    window := 1000, tokenA := 0, tokenB := 1, template := List.replicate 8 0, degradedLevel := 3, holdLevel := 6,
    releasedLevel := 4, pathPoorLevel := 3 }

/-- The counters of a crane link (R71) and the selector's two (4.1). -/
structure CraneCounts where
  duplicates : Count16
  late : Count16
  gapFrames : Count16
  controlExcess : Count16
  strayFrames : Count16
  holdsEntered : Count16
  holdsSent : Count16
  holdsDeferred : Count16
  tokensIgnored : Count16
  pathChanges : Count16
  noPath : Count16
deriving DecidableEq, Repr

/-- A link's counters at 0 (R72, R74). -/
def CraneCounts.zero : CraneCounts :=
  { duplicates := 0, late := 0, gapFrames := 0, controlExcess := 0, strayFrames := 0, holdsEntered := 0,
    holdsSent := 0, holdsDeferred := 0, tokensIgnored := 0, pathChanges := 0, noPath := 0 }

/-- A crane link record (3.1, 4.1). A deadline or expiry that is unarmed is none. -/
structure CraneLink where
  config : CraneConfig
  state : CraneState
  missed : Nat
  streak : Nat
  upDeadline : Option QuayTime
  downDeadline : Option QuayTime
  upAlive : Bool
  /-- The last accepted uplink sequence. -/
  upSeq : Option Sequence
  /-- The last accepted downlink sequence. -/
  downSeq : Option Sequence
  /-- The last sent downlink sequence. -/
  lastSent : Option Sequence
  segment : Option Segment
  boom : Boom
  reason : HoldReason
  releaseExpiry : Option QuayTime
  holdCounter : Sequence
  nextHold : Option QuayTime
  /-- The resolved set, in order. -/
  resolved : List Cell
  /-- The previous set, in order. -/
  previous : List Cell
  overlapExpiry : Option QuayTime
  pathPoor : Bool
  commitPending : Bool
  applyNow : Bool
  counts : CraneCounts
deriving DecidableEq, Repr

/-- A crane link after a cold reset (R72, R74). -/
def CraneLink.cold : CraneLink :=
  { config := .cold, state := .idle, missed := 0, streak := 0, upDeadline := none, downDeadline := none,
    upAlive := false, upSeq := none, downSeq := none, lastSent := none, segment := none, boom := .unknown,
    reason := .none, releaseExpiry := none, holdCounter := 0, nextHold := none, resolved := [], previous := [],
    overlapExpiry := none, pathPoor := false, commitPending := false, applyNow := false, counts := .zero }

/-- A path entry (4.3). -/
structure PathEntry where
  primary : Option Cell
  alternate : Option Cell
deriving DecidableEq, Repr

/-- The Quay Geometry and the path tables (4.2, 4.3). -/
structure Paths where
  /-- By bay 0-255. -/
  geometry : Table (Option Segment)
  /-- By crane × 64 + segment. -/
  staged : Table PathEntry
  /-- By crane × 64 + segment. -/
  active : Table PathEntry
deriving DecidableEq, Repr

/-- The geometry and path tables after a cold reset (R76, R78). -/
def Paths.cold : Paths :=
  { geometry := .all none, staged := .all ⟨none, none⟩, active := .all ⟨none, none⟩ }

/-! ### Coverage Map (chapter 5) -/

/-- The map's judgement of an entry (5.1). -/
inductive CoverState where
  | unknown | good | hole
deriving DecidableEq, Repr

/-- A coverage entry (5.1). -/
structure CoverEntry where
  state : CoverState
  /-- The estimate E in sixteenths of q. -/
  estimate : Nat
  /-- The sample count n. -/
  count : Nat
  lastTime : QuayTime
  /-- The age deadline, none when unarmed. -/
  age : Option QuayTime
deriving DecidableEq, Repr

/-- A coverage entry after a cold reset or a clear (R108, R110). -/
def CoverEntry.cold : CoverEntry := { state := .unknown, estimate := 0, count := 0, lastTime := 0, age := none }

/-- The Coverage Map with its counters (R109). -/
structure CoverageMap where
  /-- By segment × 32 + cell. -/
  entries : Table CoverEntry
  taken : Count32
  skipped : Count32
  shadowed : Count32
  discarded : Count32
  holesSet : Count16
  holesCleared : Count16
  aged : Count16
deriving DecidableEq, Repr

/-- The Coverage Map after a cold reset (R110). -/
def CoverageMap.cold : CoverageMap :=
  { entries := .all .cold, taken := 0, skipped := 0, shadowed := 0, discarded := 0, holesSet := 0, holesCleared := 0,
    aged := 0 }

/-! ### Reefer Registry (chapter 6) and change list (7.1) -/

/-- Whether a container is being heard (6.1). -/
inductive Freshness where
  | never | fresh | stale | lost
deriving DecidableEq, Repr

/-- The power state of a refrigeration unit (6.1). -/
inductive Power where
  | on | off | defrost
deriving DecidableEq, Repr

/-- Which edges of a check raise a notice (6.2). -/
inductive EdgeSelect where
  | none | enter | leave | both
deriving DecidableEq, Repr

/-- The dynamic fields of a reefer slot (6.1). Unset values and unarmed deadlines are none; a check is ACTIVE when
set. -/
structure ReeferRecord where
  freshness : Freshness
  confirmed : Option Int
  candidate : Option Int
  candidateCount : Nat
  returnTemp : Option Int
  setpoint : Option Int
  power : Option Power
  alarms : List Byte
  rangeFlag : Bool
  high : Bool
  low : Bool
  powerCheck : Bool
  alarmCheck : Bool
  excursion : Nat
  lastTime : QuayTime
  lastCounter : Option Byte
  stale : Option QuayTime
  lost : Option QuayTime
  summarised : Option Int
  changed : Bool
  mismatches : Count16
  duplicates : Count16
deriving DecidableEq, Repr

/-- The NEVER values (R112). -/
def ReeferRecord.never : ReeferRecord :=
  { freshness := .never, confirmed := none, candidate := none, candidateCount := 0, returnTemp := none,
    setpoint := none, power := none, alarms := [], rangeFlag := false, high := false, low := false,
    powerCheck := false, alarmCheck := false, excursion := 0, lastTime := 0, lastCounter := none, stale := none,
    lost := none, summarised := none, changed := false, mismatches := 0, duplicates := 0 }

/-- The configuration fields of a reefer slot (6.1). -/
structure ReeferConfig where
  registered : Bool
  /-- The container mark, eleven characters in ASCII. -/
  mark : List Byte
  profile : Fin 16
  segment : Option Segment
deriving DecidableEq, Repr

/-- The cold configuration of a slot: unregistered, mark AAAA0000000, profile 0, segment NONE (R137). -/
def ReeferConfig.cold : ReeferConfig :=
  { registered := false, mark := List.replicate 4 0x41#8 ++ List.replicate 7 0x30#8, profile := 0, segment := none }

/-- A reefer slot. -/
structure ReeferSlot where
  config : ReeferConfig
  record : ReeferRecord
deriving DecidableEq, Repr

/-- A slot after a cold reset (R137). -/
def ReeferSlot.cold : ReeferSlot := { config := .cold, record := .never }

/-- A reefer profile (6.2). -/
structure Profile where
  highMargin : Nat
  lowMargin : Nat
  hysteresis : Nat
  /-- The spike step S. -/
  spikeStep : Nat
  /-- The excursion band B. -/
  band : Nat
  reportDelta : Nat
  /-- In seconds. -/
  staleTime : Nat
  /-- In seconds. -/
  lostTime : Nat
  highEdges : EdgeSelect
  lowEdges : EdgeSelect
  powerEdges : EdgeSelect
  alarmEdges : EdgeSelect
  staleEdges : EdgeSelect
  highLevel : Nat
  lowLevel : Nat
  powerLevel : Nat
  alarmLevel : Nat
  staleLevel : Nat
deriving DecidableEq, Repr

/-- The cold profile (R114). -/
def Profile.cold : Profile :=
  { highMargin := 30, lowMargin := 30, hysteresis := 10, spikeStep := 20, band := 20, reportDelta := 5,
    staleTime := 900, lostTime := 3600, highEdges := .both, lowEdges := .both, powerEdges := .enter,
    alarmEdges := .enter, staleEdges := .both, highLevel := 4, lowLevel := 4, powerLevel := 3, alarmLevel := 4,
    staleLevel := 3 }

/-- The Reefer Registry with its change list and counters (R136, R139, R149). -/
structure Registry where
  slots : Table ReeferSlot
  profiles : Table Profile
  /-- Slot numbers, the head first. -/
  changeList : List Slot
  taken : Count32
  unregistered : Count32
  mismatched : Count32
  repeated : Count32
  accepted : Count32
  absorbed : Count32
deriving DecidableEq, Repr

/-- The Reefer Registry after a cold reset (R137, R150). -/
def Registry.cold : Registry :=
  { slots := .all .cold, profiles := .all .cold, changeList := [], taken := 0, unregistered := 0, mismatched := 0,
    repeated := 0, accepted := 0, absorbed := 0 }

/-! ### Summary Builder (chapter 7) -/

/-- The Summary Builder (R140, R142, R145, R149). -/
structure SummaryBuilder where
  /-- The summary timer's deadline; the timer is armed at all times. -/
  timer : QuayTime
  /-- A pass is in progress. -/
  passing : Bool
  /-- The summary counter. -/
  counter : Sequence
  framesSent : Count32
  recordsSent : Count32
  framesRefused : Count16
  passesCompleted : Count16
  passesDeferred : Count16
  overruns : Count16
deriving DecidableEq, Repr

/-- The Summary Builder after a cold reset (R150). -/
def SummaryBuilder.cold : SummaryBuilder :=
  { timer := 60000, passing := false, counter := 0, framesSent := 0, recordsSent := 0, framesRefused := 0,
    passesCompleted := 0, passesDeferred := 0, overruns := 0 }

/-! ### Notice Unit (chapter 8) -/

/-- The block that raised a notice (8.1). -/
inductive SourceKind where
  | crane | coverage | reefer | capture | port
deriving DecidableEq, Repr

/-- What happened: the event codes of every source kind (8.1). -/
inductive Event where
  | linkDown | linkUp
  | degraded | holdDeadline | holdManaged | released | pathPoor
  | holeSet | holeCleared
  | highEnter | highLeave | lowEnter | lowLeave | powerEnter | powerLeave | alarmEnter | alarmLeave
  | staleEnter | staleLeave | lost | mismatch
  | triggered | frozen
deriving DecidableEq, Repr

/-- A notice record (8.1); its source kind is its event's. -/
structure Notice where
  event : Event
  index : Nat
  level : Nat
  time : QuayTime
  data : Option (BitVec 16)
deriving DecidableEq, Repr

/-- The suppressed counters, one for each source kind (R161). -/
structure Suppressed where
  crane : Count16
  coverage : Count16
  reefer : Count16
  capture : Count16
  port : Count16
deriving DecidableEq, Repr

/-- The suppressed counters at 0. -/
def Suppressed.zero : Suppressed := { crane := 0, coverage := 0, reefer := 0, capture := 0, port := 0 }

/-- The Notice Unit (R154, R157, R159, R161). -/
structure NoticeUnit where
  /-- The queued notices, the oldest first. -/
  queue : List Notice
  /-- PACING with its deadline, or READY (none). -/
  pacing : Option QuayTime
  /-- The notice frame counter. -/
  counter : Sequence
  suppressed : Suppressed
  lost : Count16
  framesSent : Count32
  noticesSent : Count32
  framesRefused : Count16
deriving DecidableEq, Repr

/-- The Notice Unit after a cold reset (R162). -/
def NoticeUnit.cold : NoticeUnit :=
  { queue := [], pacing := none, counter := 0, suppressed := .zero, lost := 0, framesSent := 0, noticesSent := 0,
    framesRefused := 0 }

/-! ### Capture Unit (chapter 9) -/

/-- The dispositions of R16. -/
inductive Disposition where
  | management | dropMalformed | dropNull | dropAbsent | dropRedirectFault | dropPoliced | dropDuplicate | dropLate
  | dropHeld | dropNoPath | dropNoCell | dropQueueFull | dropPool | absorbed | forwarded
deriving DecidableEq, Repr

/-- The capture kind of a frame (R166). -/
inductive CaptureKind where
  | absent | general | crane | reefer | redirect | none
deriving DecidableEq, Repr

/-- A matcher (R165). In a mask, bit i stands for item i (R192). -/
structure Matcher where
  enable : Bool
  portMask : BitVec 5
  /-- none is ANY. -/
  direction : Option Direction
  kindMask : BitVec 6
  dispositionMask : BitVec 15
  craneState : Option CraneState
  lo : Nat
  hi : Nat
deriving DecidableEq, Repr

/-- A disabled matcher with every other criterion open (R179). -/
def Matcher.cold : Matcher :=
  { enable := false, portMask := 0x1F, direction := none, kindMask := 0x3F, dispositionMask := 0x7FFF,
    craneState := none, lo := 0, hi := 4095 }

/-- The capture modes (9.4). -/
inductive CaptureMode where
  | countA | countAOrB | countAAndB | bThenCountA | aThenTrace | trace
deriving DecidableEq, Repr

/-- The capture states (9.3). -/
inductive CaptureState where
  | off | armed | sequence | post | tracing | frozen
deriving DecidableEq, Repr

/-- The configuration a Capture Arm loads (R174). -/
structure CaptureConfig where
  a : Matcher
  b : Matcher
  mode : CaptureMode
  n : Nat
  /-- The post count Pc. -/
  post : Nat
  /-- The record filter: MATCHED when set, ALL when clear. -/
  matchedOnly : Bool
deriving DecidableEq, Repr

/-- The capture configuration after a cold reset (R179). -/
def CaptureConfig.cold : CaptureConfig :=
  { a := .cold, b := .cold, mode := .countA, n := 1, post := 0, matchedOnly := false }

/-- A capture entry (R169). -/
structure CaptureEntry where
  time : QuayTime
  port : Port
  direction : Option Direction
  /-- The bearer number and sequence, when the frame has them. -/
  identity : Option (BitVec 12 × Sequence)
  /-- The frame's size as received, in bytes. -/
  size : Nat
  cls : Option Class
  disposition : Disposition
  matchedA : Bool
  matchedB : Bool
deriving DecidableEq, Repr

/-- The Capture Unit (chapter 9). -/
structure CaptureUnit where
  config : CaptureConfig
  state : CaptureState
  hitA : Bool
  hitB : Bool
  /-- The capture buffer, the oldest entry first. -/
  buffer : List CaptureEntry
  triggerCount : Nat
  postCount : Nat
  traceCount : Nat
  matchesA : Count32
  matchesB : Count32
  recorded : Count32
  triggers : Count16
deriving DecidableEq, Repr

/-- The Capture Unit after a cold reset (R179). -/
def CaptureUnit.cold : CaptureUnit :=
  { config := .cold, state := .off, hitA := false, hitB := false, buffer := [], triggerCount := 0, postCount := 0,
    traceCount := 0, matchesA := 0, matchesB := 0, recorded := 0, triggers := 0 }

/-! ### Management Endpoint (chapter 10) -/

/-- The result codes (00_scope, "Management result codes"). -/
inductive ResultCode where
  | ok | badCommand | badTable | badIndex | badValue | busy | refused | notRun
deriving DecidableEq, Repr

/-- The result of one management command: its code as received, the result code, the result value and the result
data (R185). -/
structure Answer where
  code : Byte
  result : ResultCode
  value : BitVec 32
  data : List Byte
deriving DecidableEq, Repr

/-- A request waiting in the request list (R181). -/
structure Request where
  tag : BitVec 16
  source : Address
  commands : List WireCommand
deriving DecidableEq, Repr

/-- The request being executed: the results its commands have been given so far, in list order, and whether a
NOT_RUN has been met (R183). -/
structure Execution where
  request : Request
  results : List Answer
  stopped : Bool
deriving DecidableEq, Repr

/-- The Management Endpoint (chapter 10); the identity store and the settings stand beside it in `State`. -/
structure Endpoint where
  /-- The manager list, by index 0-3; 0 is an empty entry. -/
  managers : Table Address
  /-- The request list, the head first. -/
  requests : List Request
  executing : Option Execution
  executed : Count32
  rejected : Count16
  malformed : Count16
  overrun : Count16
  repliesLost : Count16
  /-- The model's own: the result of the last management command executed (log entry 7). -/
  answer : Option Answer
deriving DecidableEq, Repr

/-- The endpoint after a cold reset (R191). -/
def Endpoint.cold : Endpoint :=
  { managers := .all 0, requests := [], executing := none, executed := 0, rejected := 0, malformed := 0, overrun := 0,
    repliesLost := 0, answer := none }

/-! ### The part -/

/-- The cold value of a setting (the table of 10.5), for a part with the given identity. -/
def Settings.coldValue (id : Identity) (index : Nat) : Nat :=
  if index = 0 then id.defaultBearerEtherType.toNat
  else if index = 1 then 512
  else if index < 22 then 128
  else if index < 37 then (match (index - 22) % 3 with | 0 => 8 | 1 => 4 | _ => 1)
  else (match index with
    | 37 => 5 | 38 => 3 | 39 => 50 | 40 => 16 | 41 => 1280 | 42 => 64 | 43 => 3 | 44 => 600 | 45 => 4 | 46 => 2
    | 47 => 3 | 48 => 60 | 50 => 1 | 51 => 100 | 53 => 4 | _ => 0)

/-- Every setting at its cold value (R187). -/
def Settings.cold (id : Identity) : Table Nat :=
  (List.range 54).foldl (fun t i => t.set i (Settings.coldValue id i)) (.all 0)

/-- The state of the TQ16, with the queue of the commands that wait. -/
structure State where
  quayTime : QuayTime
  /-- The model's own: byte times of 0.8 ns since quay time last advanced (log entry 5). -/
  lineTime : Nat
  identity : Identity
  /-- The SETTINGS table, by index 0-53 (10.5). -/
  settings : Table Nat
  classifier : Classifier
  store : FrameStore
  /-- The crane link records, by link 0-15. -/
  links : Table CraneLink
  paths : Paths
  coverage : CoverageMap
  registry : Registry
  summary : SummaryBuilder
  notices : NoticeUnit
  capture : CaptureUnit
  endpoint : Endpoint
  /-- The commands that wait, the first to be taken first (log entry 1). -/
  pending : List Instr
deriving DecidableEq, Repr

/-- No command stops the part with a fault: the manual gives every command an effect or a result code. -/
inductive Fault where
deriving DecidableEq, Repr

/-- The reasons a command is refused by the model. -/
inductive Refusal where
  /-- Raised by exec for a command that has no meaning in the model yet; safe, since the run stops. No command is
  refused so in this model. -/
  | notModelled (mnemonic : String)
deriving DecidableEq, Repr

/-- The part after a cold reset, for a part with the given identity: every block at its cold values (R22, R44, R72,
R74, R76, R78, R110, R137, R150, R162, R179, R187, R191) and quay time 0. -/
def State.cold (id : Identity) : State :=
  { quayTime := 0, lineTime := 0, identity := id, settings := Settings.cold id
    classifier := { bearers := .all .cold, cells := .all .cold, counts := .all .zero }
    store := .cold, links := .all .cold, paths := .cold, coverage := .cold, registry := .cold, summary := .cold,
    notices := .cold, capture := .cold, endpoint := .cold, pending := [] }

/-- The machine right after reset. -/
def State.reset : State := State.cold Config.identity

end Sys2Proof.Machine
end

