-- ==== Sys2Proof/Machine/Flags.lean ====
section
/-! DEFINITION. Counters, deadlines and the other small computations several chapters share. -/

namespace Sys2Proof.Machine

/-- A saturating 16-bit counter after `n` further events (00_scope, "Counters"). -/
def saturate16 (c : Count16) (n : Nat) : Count16 := BitVec.ofNat 16 (min 65535 (c.toNat + n))

/-- A saturating 16-bit counter after one event. -/
def bump16 (c : Count16) : Count16 := saturate16 c 1

/-- A quay time some milliseconds later, modulo 2^32 (00_scope, "Quay time"). -/
def later (t : QuayTime) (ms : Nat) : QuayTime := t + BitVec.ofNat 32 ms

/-- A deadline has been reached: quay time lies less than half the 32-bit range past it (log entry 3). -/
def reached (now deadline : QuayTime) : Bool := decide ((now - deadline).toNat < 2147483648)

/-- An armed deadline that has been reached: it expires. An unarmed one does not (00_scope, "Quay time"). -/
def due (now : QuayTime) : Option QuayTime → Bool
  | none => false
  | some d => reached now d

/-- The burst in bytes of a descriptor (R9). -/
def Descriptor.burstBytes (d : Descriptor) : Nat := if d.coarse then d.burst * 65536 else d.burst * 1024

/-- The refill rate of a descriptor in bytes per ms (R9). -/
def Descriptor.refillRate (d : Descriptor) : Nat := if d.coarse then d.rate * 1000 else d.rate * 8

/-- The bucket level after the refill of R9, at a quay time. -/
def Descriptor.refilled (d : Descriptor) (now : QuayTime) : Nat :=
  let m := (now - d.stamp).toNat
  if 2147483648 ≤ m then d.burstBytes else min d.burstBytes (d.level + d.refillRate * m)

/-- The step by which an estimate moves toward a sample of quality q with weight k (R99): the product divided by 256,
rounded to the nearest whole number, a half away from zero. -/
def coverStep (estimate q k : Nat) : Int :=
  let product : Int := ((16 * q : Nat) - (estimate : Int)) * k
  let magnitude : Nat := (product.natAbs + 128) / 256
  if product < 0 then -(magnitude : Int) else magnitude

/-- The estimate after the step, limited to 0-4080 (R100). -/
def movedEstimate (estimate q k : Nat) : Nat := (min 4080 (max 0 ((estimate : Int) + coverStep estimate q k))).toNat

/-- The judgement of an entry after a sample (R101). -/
def judged (before : CoverState) (estimate count floor hysteresis minimum : Nat) : CoverState :=
  match before with
  | .unknown => if count < minimum then .unknown else if estimate < floor then .hole else .good
  | .good => if estimate < floor then .hole else .good
  | .hole => if floor + hysteresis ≤ estimate then .good else .hole

/-- Whether an edge select includes the enter edge (R127). -/
def EdgeSelect.enters : EdgeSelect → Bool
  | .enter => true
  | .both => true
  | .none => false
  | .leave => false

/-- Whether an edge select includes the leave edge (R127). -/
def EdgeSelect.leaves : EdgeSelect → Bool
  | .leave => true
  | .both => true
  | .none => false
  | .enter => false

/-- The HIGH check after judgement on confirmed supply and setpoint (R124). -/
def highCheck (p : Profile) (power : Option Power) (confirmed setpoint : Option Int) (before : Bool) : Bool :=
  match confirmed, setpoint with
  | some c, some sp =>
    if power = some .defrost then before
    else if before then !decide (c ≤ sp + (p.highMargin : Int) - (p.hysteresis : Int))
    else decide (sp + (p.highMargin : Int) < c)
  | _, _ => before

/-- The LOW check after judgement on confirmed supply and setpoint (R125). -/
def lowCheck (p : Profile) (confirmed setpoint : Option Int) (before : Bool) : Bool :=
  match confirmed, setpoint with
  | some c, some sp =>
    if before then !decide (sp - (p.lowMargin : Int) + (p.hysteresis : Int) ≤ c)
    else decide (c < sp - (p.lowMargin : Int))
  | _, _ => before

/-- How far ahead of the last accepted sequence a frame's sequence lies, modulo 65,536 (R52). -/
def ahead (s last : Sequence) : Nat := (s - last).toNat

/-- A sixteen-bit two's complement value of a temperature, as a data word carries it (R194). -/
def tempWord (t : Int) : BitVec 16 := BitVec.ofInt 16 t

/-- The blocks a frame of some stored size occupies: ceil(n/128) (R31). -/
def blocksOf (size : Nat) : Nat := (size + 127) / 128

/-- The stored size of a frame: its data field with the 18 bytes of addresses, EtherType and check sequence (R31). -/
def frameSize (f : Frame) : Nat := f.data.length + 18

/-- The cells of a list that are not in another, in order. -/
def cellsBeyond (cells known : List Cell) : List Cell := cells.filter fun c => !known.contains c

/-- Two lists of cells are equal as sets (R88). -/
def sameCells (a b : List Cell) : Bool := a.all b.contains && b.all a.contains

/-- The send set of a link: the resolved set, then the cells of the previous set that are not in it (R90). -/
def CraneLink.sendSet (l : CraneLink) : List Cell := l.resolved ++ cellsBeyond l.previous l.resolved

end Sys2Proof.Machine
end

