-- ==== Sys2Proof/Machine/Operands.lean ====
section
/-! DEFINITION. Reading what frames and commands carry: byte order (R192), bearer headers, trailers and records (R193),
and the fields of written entries with their range checks (R198 and the owning rules). -/

namespace Sys2Proof.Machine

/-! ### Bytes -/

/-- The byte at an offset; 0 past the end. -/
def byteAt (data : List Byte) (i : Nat) : Byte := data.getD i 0

/-- The two bytes at an offset, most significant first (R192). -/
def wordAt (data : List Byte) (i : Nat) : BitVec 16 := byteAt data i ++ byteAt data (i + 1)

/-- The four bytes at an offset, most significant first (R192). -/
def longAt (data : List Byte) (i : Nat) : BitVec 32 := wordAt data i ++ wordAt data (i + 2)

/-- The six bytes at an offset, most significant first (R192). -/
def addressAt (data : List Byte) (i : Nat) : BitVec 48 := longAt data i ++ wordAt data (i + 4)

/-- Some bytes from an offset. -/
def bytesAt (data : List Byte) (i n : Nat) : List Byte := (data.drop i).take n

/-! ### Bearer frames -/

/-- A bearer header as read (R193). -/
structure Header where
  version : Byte
  /-- The direction, none for a code other than UP or DOWN. -/
  direction : Option Direction
  requested : Class
  trailer : Bool
  cell : Byte
  bearer : BitVec 12
  sequence : Sequence
  payloadLength : Nat
deriving DecidableEq, Repr

/-- The direction a code names (R192). -/
def directionOf (code : Nat) : Option Direction :=
  if code = 1 then some .up else if code = 2 then some .down else none

/-- The bearer header at the start of a data field of at least 10 bytes (R193). -/
def readHeader (data : List Byte) : Header :=
  let bits := byteAt data 1
  { version := byteAt data 0
    direction := directionOf ((bits >>> 6).toNat)
    requested := ⟨(bits >>> 4).toNat % 4, Nat.mod_lt _ (by decide)⟩
    trailer := bits.getLsbD 0
    cell := byteAt data 2
    bearer := (wordAt data 3).setWidth 12
    sequence := wordAt data 5
    payloadLength := (wordAt data 7).toNat }

/-- Some pairs of bytes from an offset. -/
def readPairs (data : List Byte) (i : Nat) : Nat → List (Byte × Byte)
  | 0 => []
  | n + 1 => (byteAt data i, byteAt data (i + 1)) :: readPairs data (i + 2) n

/-- The payload of a bearer frame. -/
def payloadOf (data : List Byte) (h : Header) : List Byte := bytesAt data 10 h.payloadLength

/-- The neighbour count, at its place after the payload (R4). -/
def neighbourCount (data : List Byte) (h : Header) : Nat := (byteAt data (10 + h.payloadLength + 1)).toNat

/-- The required length of the data field (R4). -/
def requiredLength (data : List Byte) (h : Header) : Nat :=
  10 + h.payloadLength + (if h.trailer then 2 + 2 * neighbourCount data h else 0)

/-- The radio trailer that follows the payload, when the header announces one (R193). -/
def readTrailer (data : List Byte) (h : Header) : Option Trailer :=
  if h.trailer then
    some { serving := byteAt data (10 + h.payloadLength)
           pairs := readPairs data (10 + h.payloadLength + 2) (neighbourCount data h) }
  else none

/-- A bearer frame fails a test of R3. -/
def failsHeaderTests (port : Port) (f : Frame) : Bool :=
  let h := readHeader f.data
  decide (2048 < frameSize f) || decide (f.data.length < 10) || !decide (h.version = 1) ||
  (match h.direction with
    | none => true
    | some .up => decide (port = .y)
    | some .down => !decide (port = .y)) ||
  decide (1900 < h.payloadLength)

/-- A bearer frame that passed R3 fails the length check of R4. -/
def failsLengthTest (f : Frame) : Bool :=
  let h := readHeader f.data
  let n := f.data.length
  (h.trailer && decide (n < 10 + h.payloadLength + 2)) ||
  (h.trailer && decide (4 < neighbourCount f.data h)) ||
  !(decide (n = requiredLength f.data h) || (decide (requiredLength f.data h < 46) && decide (n = 46)))

/-- The boom state a code names; any code other than UP or DOWN gives UNKNOWN (R57, R192). -/
def boomOf (code : Byte) : Boom := if code = 1 then .up else if code = 2 then .down else .unknown

/-- The size of a crane control record: 4 bytes, or 6 when the token is present (R193). -/
def controlSize (payload : List Byte) : Nat := if (byteAt payload 2).getLsbD 0 then 6 else 4

/-- The crane control record at the start of a payload (R193). -/
def readControl (payload : List Byte) : ControlRecord :=
  { bay := byteAt payload 0
    boom := boomOf (byteAt payload 1)
    token := if (byteAt payload 2).getLsbD 0 then some (wordAt payload 4) else none }

/-- A carried temperature: signed, with −32,768 for absent (R192). -/
def readTemp (w : BitVec 16) : Option Int := if w = 0x8000#16 then none else some w.toInt

/-- The size of a reefer report record: 20 bytes and its alarm codes, their count limited to 4 (R7, R193). -/
def reportSize (payload : List Byte) : Nat := 20 + min (byteAt payload 19).toNat 4

/-- The reefer report record at the start of a payload (R193). -/
def readReport (payload : List Byte) : Report :=
  { mark := bytesAt payload 0 11
    counter := byteAt payload 11
    supply := readTemp (wordAt payload 12)
    returnTemp := readTemp (wordAt payload 14)
    setpoint := readTemp (wordAt payload 16)
    powerCode := byteAt payload 18
    alarmCount := (byteAt payload 19).toNat
    alarms := bytesAt payload 20 (min (byteAt payload 19).toNat 4) }

/-! ### Fields of written entries -/

/-- Ports by number: 0-3 for Q0-Q3, 4 for Y. -/
def portOf (n : Nat) : Port :=
  match n with
  | 0 => .q0 | 1 => .q1 | 2 => .q2 | 3 => .q3 | _ => .y

/-- The number of a port (R27). -/
def portNumber : Port → Nat
  | .q0 => 0 | .q1 => 1 | .q2 => 2 | .q3 => 3 | .y => 4

/-- A flag byte: 1 is yes and 0 is no; another byte is free (log entry 11). none is a refusal BAD_VALUE. -/
def flagField (b : Byte) : Option Bool :=
  if b = 0 then some false else if b = 1 then some true else Config.oddFlag b

/-- A cell field: 0-31, or NONE carried as 255; none when out of range (R192). -/
def cellField (b : Byte) : Option (Option Cell) :=
  if b = 255 then some none else if h : b.toNat < 32 then some (some ⟨b.toNat, h⟩) else none

/-- A segment field: 0-63, or NONE carried as 255; none when out of range (R192). -/
def segmentField (b : Byte) : Option (Option Segment) :=
  if b = 255 then some none else if h : b.toNat < 64 then some (some ⟨b.toNat, h⟩) else none

/-- The cell a header or trailer value names: a value from 32 to 255 names none (R4 note 2). -/
def cellNamed (b : Byte) : Option Cell := if h : b.toNat < 32 then some ⟨b.toNat, h⟩ else none

/-- A value between two bounds. -/
def within (lo hi n : Nat) : Bool := decide (lo ≤ n) && decide (n ≤ hi)

/-- A value that names nothing stands in a field and the part refuses it (log entry 12). -/
def strays (field : StrayField) (value : Nat) : Bool := !decide (value = 0) && Config.refusesStray field value

/-- The cell entry a CELLS write stores, its port up flag aside; none for BAD_VALUE (R29). -/
def readCell (f : CellFields) : Option (Bool × Fin 4 × BitVec 16) :=
  if h : f.quayPort.toNat < 4 then (flagField f.present).map fun p => (p, ⟨f.quayPort.toNat, h⟩, f.label) else none

/-- The treatment a BEARERS write carries; none when the kind or its own field is out of range (R18). The target's
consistency is checked by the write. -/
def readTreatment (f : BearerFields) (segment : Option Segment) : Option Treatment :=
  match f.kind.toNat with
  | 0 => if strays .kindSpecific f.special.toNat then none else some .absent
  | 1 => if strays .kindSpecific f.special.toNat then none else some (.general segment)
  | 2 => if h : f.special.toNat < 16 then some (.crane ⟨f.special.toNat, h⟩) else none
  | 3 => if h : f.special.toNat < 2048 then some (.reefer ⟨f.special.toNat, h⟩ f.absorb) else none
  | 4 => if f.special.toNat < 4096 then some (.redirect (f.special.setWidth 12)) else none
  | _ => none

/-- The configuration a BEARERS write carries, as a descriptor with its dynamic fields cold; none for BAD_VALUE, but
for the target test of a REDIRECT (R18 step 2). -/
def readBearer (f : BearerFields) : Option Descriptor := do
  let home ← cellField f.homeCell
  let segment ← segmentField f.segment
  let treatment ← readTreatment f segment
  if !within 0 4095 f.rate.toNat || !within 1 255 f.burst.toNat ||
      (decide (f.kind = 2) && (!decide (f.cls = 0) || f.demote)) ||
      (!decide (f.kind = 1) && segment.isSome) ||
      (!decide (f.kind = 3) && strays .absorb f.absorb.toNat) then none
  else if f.kind = 0 then some Descriptor.cold
  else some { Descriptor.cold with
    treatment := treatment, cls := f.cls.toFin, rate := f.rate.toNat, coarse := f.coarse, burst := f.burst.toNat,
    demote := f.demote, homeCell := home }

/-- The configuration a CRANES write carries; none for BAD_VALUE, but for the Bearer Table test (R46 step 2). The bytes
of the template field beyond the template length are no part of the template and fail no check. -/
def readCrane (f : CraneFields) : Option CraneConfig :=
  let n := f.templateLength.toNat
  if within 0 1 f.enable.toNat && within 0 4095 f.bearer.toNat && within 5 500 f.period.toNat &&
      decide (f.jitter.toNat ≤ f.period.toNat) && within 1 15 f.threshold.toNat && within 2 30 f.recovery.toNat &&
      within 0 1000 f.overlap.toNat && within 100 10000 f.window.toNat && !decide (f.tokenA = f.tokenB) &&
      within 8 64 n && within 0 7 f.degradedLevel.toNat && within 0 7 f.holdLevel.toNat &&
      within 0 7 f.releasedLevel.toNat && within 0 7 f.pathPoorLevel.toNat &&
      !(decide (f.enable = 1) && decide (f.bearer = 0)) then
    some { enable := decide (f.enable = 1), bearer := f.bearer.setWidth 12, period := f.period.toNat,
           jitter := f.jitter.toNat, threshold := f.threshold.toNat, recovery := f.recovery.toNat,
           overlap := f.overlap.toNat, window := f.window.toNat, tokenA := f.tokenA, tokenB := f.tokenB,
           template := f.template.take n, degradedLevel := f.degradedLevel.toNat, holdLevel := f.holdLevel.toNat,
           releasedLevel := f.releasedLevel.toNat, pathPoorLevel := f.pathPoorLevel.toNat }
  else none

/-- An edge select code (R198). -/
def edgeField (b : Byte) : Option EdgeSelect :=
  match b.toNat with
  | 0 => some .none
  | 1 => some .enter
  | 2 => some .leave
  | 3 => some .both
  | _ => none

/-- The profile a PROFILES write carries; none for BAD_VALUE (R113). -/
def readProfile (f : ProfileFields) : Option Profile := do
  let highEdges ← edgeField f.highEdges
  let lowEdges ← edgeField f.lowEdges
  let powerEdges ← edgeField f.powerEdges
  let alarmEdges ← edgeField f.alarmEdges
  let staleEdges ← edgeField f.staleEdges
  if within 1 200 f.highMargin.toNat && within 1 200 f.lowMargin.toNat && within 0 50 f.hysteresis.toNat &&
      decide (f.hysteresis.toNat < f.highMargin.toNat) && decide (f.hysteresis.toNat < f.lowMargin.toNat) &&
      within 1 100 f.spikeStep.toNat && within 0 200 f.band.toNat && within 1 100 f.reportDelta.toNat &&
      within 60 7200 f.staleTime.toNat && within 0 86400 f.lostTime.toNat &&
      decide (f.staleTime.toNat < f.lostTime.toNat) && within 0 7 f.highLevel.toNat && within 0 7 f.lowLevel.toNat &&
      within 0 7 f.powerLevel.toNat && within 0 7 f.alarmLevel.toNat && within 0 7 f.staleLevel.toNat then
    some { highMargin := f.highMargin.toNat, lowMargin := f.lowMargin.toNat, hysteresis := f.hysteresis.toNat,
           spikeStep := f.spikeStep.toNat, band := f.band.toNat, reportDelta := f.reportDelta.toNat,
           staleTime := f.staleTime.toNat, lostTime := f.lostTime.toNat, highEdges := highEdges,
           lowEdges := lowEdges, powerEdges := powerEdges, alarmEdges := alarmEdges, staleEdges := staleEdges,
           highLevel := f.highLevel.toNat, lowLevel := f.lowLevel.toNat, powerLevel := f.powerLevel.toNat,
           alarmLevel := f.alarmLevel.toNat, staleLevel := f.staleLevel.toNat }
  else none

/-- A character of a container mark: A-Z or 0-9 in ASCII (R192). -/
def markCharacter (b : Byte) : Bool := within 0x41 0x5A b.toNat || within 0x30 0x39 b.toNat

/-- The configuration a REEFERS write carries; none for BAD_VALUE (R134). -/
def readReefer (f : ReeferFields) : Option ReeferConfig := do
  let registered ← flagField f.registered
  let segment ← segmentField f.segment
  if h : f.profile.toNat < 16 then
    if f.mark.all markCharacter then
      some { registered := registered, mark := f.mark, profile := ⟨f.profile.toNat, h⟩, segment := segment }
    else none
  else none

/-- The crane state a criterion code names, 0 for none; none when out of range (R192). -/
def craneCriterion (b : Byte) : Option (Option CraneState) :=
  match b.toNat with
  | 0 => some none
  | 1 => some (some .idle)
  | 2 => some (some .arming)
  | 3 => some (some .live)
  | 4 => some (some .degraded)
  | 5 => some (some .hold)
  | 6 => some (some .releasing)
  | _ => none

/-- The matcher a Capture Arm carries; none for BAD_VALUE (R174). -/
def readMatcher (f : MatcherFields) : Option Matcher := do
  let crane ← craneCriterion f.craneState
  let enable ← (if f.enable = 0 then some false else if f.enable = 1 then some true else none)
  let direction ← (if f.direction = 0 then some none else (directionOf f.direction.toNat).map some)
  if f.lo.toNat ≤ f.hi.toNat && within 0 4095 f.hi.toNat && !strays .portMask (f.portMask >>> 5).toNat &&
      !strays .kindMask (f.kindMask >>> 6).toNat && !strays .dispositionMask (f.dispositionMask >>> 15).toNat then
    some { enable := enable, portMask := f.portMask.setWidth 5, direction := direction,
           kindMask := f.kindMask.setWidth 6, dispositionMask := f.dispositionMask.setWidth 15, craneState := crane,
           lo := f.lo.toNat, hi := f.hi.toNat }
  else none

/-- The capture mode a code names (R196). -/
def modeField (b : Byte) : Option CaptureMode :=
  match b.toNat with
  | 1 => some .countA
  | 2 => some .countAOrB
  | 3 => some .countAAndB
  | 4 => some .bThenCountA
  | 5 => some .aThenTrace
  | 6 => some .trace
  | _ => none

/-- The mode needs matcher A enabled (R174). -/
def CaptureMode.needsA : CaptureMode → Bool
  | .countA => true
  | .aThenTrace => true
  | .bThenCountA => true
  | .countAOrB => false
  | .countAAndB => false
  | .trace => false

/-- The mode needs matcher B enabled (R174). -/
def CaptureMode.needsB : CaptureMode → Bool
  | .countAOrB => true
  | .countAAndB => true
  | .bThenCountA => true
  | .countA => false
  | .aThenTrace => false
  | .trace => false

/-- The configuration a Capture Arm carries; none for BAD_VALUE (R174). -/
def readCapture (f : CaptureFields) : Option CaptureConfig := do
  let a ← readMatcher f.a
  let b ← readMatcher f.b
  let mode ← modeField f.mode
  let matchedOnly ← (if f.filter = 0 then some false else if f.filter = 1 then some true else none)
  if f.n = 0 || (mode.needsA && !a.enable) || (mode.needsB && !b.enable) then none
  else some { a := a, b := b, mode := mode, n := f.n.toNat, post := f.post.toNat, matchedOnly := matchedOnly }

end Sys2Proof.Machine
end

