-- ==== Sys2Proof/Decode.lean ====
section
/-! DEFINITION. Reading commands. No row of spec/opcode_table.json gives bits, so no word spells a command; what a
management station sends is a request frame, and this file reads its command list (R181, R196, R197) and turns each
command into the row of the table it is. -/

namespace Sys2Proof

open Sys2Proof.Machine

/-- The command a word spells by the table's bits: no row has bits, so none does. -/
def decodeTableWord (_nbits _w : Nat) : Option Instr := none

/-- The command list at the start of some bytes: `n` commands, each stepped over by its carried length, a length below
4 taken as 4; none when they run beyond the bytes (R181, R197). -/
def readCommands (data : List Byte) : Nat → Option (List WireCommand)
  | 0 => some []
  | n + 1 =>
    let len := max 4 (wordAt data 2).toNat
    if data.length < len then none
    else (readCommands (data.drop len) n).map fun rest =>
      { code := byteAt data 0, carried := wordAt data 2, args := bytesAt data 4 (len - 4) } :: rest

/-- The request a management frame holds; none when it is malformed (R181 test 2, R196). -/
def readRequest (f : Frame) : Option Request :=
  let n := (byteAt f.data 4).toNat
  if f.data.length < 8 ∨ n = 0 ∨ 32 < n then none
  else (readCommands (f.data.drop 8) n).map fun commands =>
    { tag := wordAt f.data 2, source := f.src, commands := commands }

/-- The write of a setting, by the row of the table its index is (10.5, R187). -/
def decodeSettingWrite (index : Nat) (value : BitVec 48) : Instr :=
  if index = 0 then .bearerTypeWrite value
  else if 2 ≤ index ∧ index < 22 then
    .queueLimitWrite (portOf ((index - 2) / 4)) ⟨(index - 2) % 4, Nat.mod_lt _ (by decide)⟩ value
  else if index = 48 then .summaryIntervalWrite value
  else if index = 50 then .noticeFloorWrite value
  else if index = 52 then .noticeDestinationWrite value
  else .writeSettings index value

/-- The configuration part of a CELLS entry (R198). -/
def decodeCell (b : List Byte) : CellFields := { present := byteAt b 0, quayPort := byteAt b 1, label := wordAt b 2 }

/-- The configuration part of a BEARERS entry (R198). -/
def decodeBearer (b : List Byte) : BearerFields :=
  { kind := byteAt b 0, cls := (byteAt b 1).setWidth 2, coarse := (byteAt b 1).getLsbD 2
    demote := (byteAt b 1).getLsbD 3, absorb := (byteAt b 1).getLsbD 4, rate := wordAt b 2, burst := byteAt b 4
    homeCell := byteAt b 5, segment := byteAt b 6, special := wordAt b 7 }

/-- The configuration part of a CRANES entry (R198). -/
def decodeCrane (b : List Byte) : CraneFields :=
  { enable := byteAt b 0, threshold := byteAt b 1, bearer := wordAt b 2, period := wordAt b 4, jitter := wordAt b 6
    recovery := byteAt b 8, templateLength := byteAt b 9, overlap := wordAt b 10, window := wordAt b 12
    tokenA := wordAt b 14, tokenB := wordAt b 16, degradedLevel := byteAt b 18, holdLevel := byteAt b 19
    releasedLevel := byteAt b 20, pathPoorLevel := byteAt b 21, template := bytesAt b 22 64 }

/-- A PROFILES entry (R198). -/
def decodeProfile (b : List Byte) : ProfileFields :=
  { highMargin := byteAt b 0, lowMargin := byteAt b 1, hysteresis := byteAt b 2, spikeStep := byteAt b 3
    band := byteAt b 4, reportDelta := byteAt b 5, staleTime := wordAt b 6, lostTime := longAt b 8
    highEdges := byteAt b 12, lowEdges := byteAt b 13, powerEdges := byteAt b 14, alarmEdges := byteAt b 15
    staleEdges := byteAt b 16, highLevel := byteAt b 17, lowLevel := byteAt b 18, powerLevel := byteAt b 19
    alarmLevel := byteAt b 20, staleLevel := byteAt b 21 }

/-- The configuration part of a REEFERS entry (R198). -/
def decodeReefer (b : List Byte) : ReeferFields :=
  { registered := byteAt b 0, mark := bytesAt b 1 11, profile := byteAt b 12, segment := byteAt b 13 }

/-- A matcher of a Capture Arm, 12 bytes (R196). -/
def decodeMatcher (b : List Byte) : MatcherFields :=
  { enable := byteAt b 0, portMask := byteAt b 1, direction := byteAt b 2, kindMask := byteAt b 3
    dispositionMask := wordAt b 4, craneState := byteAt b 6, lo := wordAt b 8, hi := wordAt b 10 }

/-- The capture configuration of a Capture Arm (R196). -/
def decodeCapture (b : List Byte) : CaptureFields :=
  { a := decodeMatcher b, b := decodeMatcher (b.drop 12), mode := byteAt b 24, filter := byteAt b 25
    n := wordAt b 26, post := byteAt b 28 }

/-- A Write Entry whose arguments are long enough for its fixed part; one too short for its table, or naming a table
the part does not know, reaches no owner (R183 test 4). -/
def decodeWrite (c : WireCommand) : Instr :=
  let index := (wordAt c.args 2).toNat
  let fields := c.args.drop 4
  let n := fields.length
  match (byteAt c.args 0).toNat with
  | 1 => if n < 6 then .badCommand c else decodeSettingWrite index (addressAt fields 0)
  | 2 => if n < 6 then .badCommand c else .writeManagers index (addressAt fields 0)
  | 3 => if n < 4 then .badCommand c else .writeCells index (decodeCell fields)
  | 4 => if n < 1 then .badCommand c else .writeGeometry index (byteAt fields 0)
  | 5 => if n < 10 then .badCommand c else .writeBearers index (decodeBearer fields)
  | 6 => if n < 86 then .badCommand c else .writeCranes index (decodeCrane fields)
  | 7 => if n < 2 then .badCommand c else .writePaths index (byteAt fields 0) (byteAt fields 1)
  | 8 => if n < 24 then .badCommand c else .writeProfiles index (decodeProfile fields)
  | 9 => if n < 14 then .badCommand c else .writeReefers index (decodeReefer fields)
  | 10 => .writeCoverage index
  | _ => .badCommand c

/-- A Clear Entries whose arguments are long enough; one naming no table the part knows reaches no owner. -/
def decodeClear (c : WireCommand) : Instr :=
  let first := (wordAt c.args 2).toNat
  let count := (wordAt c.args 4).toNat
  match (byteAt c.args 0).toNat with
  | 1 => .clearSettings first count
  | 2 => .clearManagers first count
  | 3 => .clearCells first count
  | 4 => .clearGeometry first count
  | 5 => .clearBearers first count
  | 6 => .clearCranes first count
  | 7 => .clearPaths first count
  | 8 => .clearProfiles first count
  | 9 => .clearReefers first count
  | 10 => .clearCoverage first count
  | _ => .badCommand c

/-- The length of a code's fixed arguments; none for a code the part does not know (R196, R183 tests 2 and 3). -/
def fixedArguments (code : Byte) : Option Nat :=
  match code.toNat with
  | 1 => some 0
  | 2 => some 6
  | 3 => some 4
  | 4 => some 6
  | 5 => some 3
  | 6 => some 2
  | 7 => some 6
  | 8 => some 0
  | 9 => some 30
  | 10 => some 0
  | 11 => some 3
  | 12 => some 0
  | 13 => some 0
  | _ => none

/-- A carried command is too short for its header and some bytes of fixed arguments (R183 test 3). A carried length
below 4 is taken as 4 for the step to the next command alone (R197), and is too short for every code (log entry 18). -/
def WireCommand.tooShort (c : WireCommand) (n : Nat) : Bool := decide (c.carried.toNat < 4) || decide (c.args.length < n)

/-- The row of the table that a carried command is (R183, R196). -/
def decodeCommand (c : WireCommand) : Instr :=
  match fixedArguments c.code with
  | none => .badCommand c
  | some n =>
    if c.tooShort n then .badCommand c
    else
      match c.code.toNat with
      | 1 => .identify
      | 2 => .readEntries (byteAt c.args 0) (wordAt c.args 2).toNat (wordAt c.args 4).toNat
      | 3 => decodeWrite c
      | 4 => decodeClear c
      | 5 => .commitPaths (wordAt c.args 0) ((byteAt c.args 2).getLsbD 0)
      | 6 => .craneHold (wordAt c.args 0)
      | 7 => .statisticsRead (byteAt c.args 0) (wordAt c.args 2).toNat (wordAt c.args 4).toNat
      | 8 => .statisticsClear
      | 9 => .captureArm (decodeCapture c.args)
      | 10 => .captureStop
      | 11 => .captureRead (wordAt c.args 0).toNat (byteAt c.args 2).toNat
      | 12 => .captureClearHits
      | 13 => .restart
      | _ => .badCommand c

/-- The result of a command that reaches no owner (R183 tests 2 to 4): an unknown code, too short for its code, no
such table for a Write Entry or Clear Entries, or too short for its table. -/
def badCommandResult (c : WireCommand) : ResultCode :=
  match fixedArguments c.code with
  | none => .badCommand
  | some n =>
    if c.tooShort n then .badValue
    else if within 1 10 (byteAt c.args 0).toNat then .badValue
    else .badTable

end Sys2Proof
end

