-- ==== Sys2Proof/Machine/Layout.lean ====
section
/-! DEFINITION. Writing what the part sends: codes and byte order (R192, R198), hold orders (R193), summary and notice
frames (R194), replies (R196), and table entries (R198). -/

namespace Sys2Proof.Machine

/-! ### Bytes -/

/-- One byte. -/
def put8 (n : Nat) : List Byte := [BitVec.ofNat 8 n]

/-- Two bytes, most significant first (R192). -/
def put16 (n : Nat) : List Byte := [BitVec.ofNat 8 (n / 256), BitVec.ofNat 8 n]

/-- Four bytes, most significant first (R192). -/
def put32 (n : Nat) : List Byte := put16 (n / 65536) ++ put16 n

/-- Six bytes, most significant first (R192). -/
def put48 (n : Nat) : List Byte := put16 (n / 4294967296) ++ put32 n

/-- Some zero bytes. -/
def zeros (n : Nat) : List Byte := List.replicate n 0

/-- A flag: 1 or 0 (R198). -/
def putFlag (b : Bool) : List Byte := put8 b.toNat

/-- Bits of a flags field, the first being bit 0. -/
def bitsOf : List Bool → Nat
  | [] => 0
  | b :: rest => b.toNat + 2 * bitsOf rest

/-- A temperature: signed 16-bit, −32,768 when unset (R192). -/
def putTemp : Option Int → List Byte
  | none => put16 0x8000
  | some t => put16 (tempWord t).toNat

/-- A deadline's value bytes, 0 when unarmed (R192). -/
def putTime : Option QuayTime → List Byte
  | none => put32 0
  | some d => put32 d.toNat

/-- A sequence's value bytes, 0 when none (R192). -/
def putSequence : Option Sequence → List Byte
  | none => put16 0
  | some q => put16 q.toNat

/-- A cell, 255 for NONE (R192). -/
def putCell : Option Cell → List Byte
  | none => put8 255
  | some c => put8 c.val

/-- A segment, 255 for NONE (R192). -/
def putSegment : Option Segment → List Byte
  | none => put8 255
  | some g => put8 g.val

/-- A list of cells: its count, then its places, each unused place 255 (R198). -/
def putCells (cells : List Cell) (places : Nat) : List Byte :=
  put8 cells.length ++ cells.flatMap (fun c => put8 c.val) ++ List.replicate (places - cells.length) 0xFF#8

/-- A list of bytes padded with zero bytes to a length. -/
def padTo (n : Nat) (bytes : List Byte) : List Byte := bytes ++ zeros (n - bytes.length)

/-! ### Codes (R192, R198) -/

/-- Freshness codes. -/
def freshnessCode : Freshness → Nat
  | .never => 0 | .fresh => 1 | .stale => 2 | .lost => 3

/-- Crane link state codes. -/
def craneStateCode : CraneState → Nat
  | .idle => 1 | .arming => 2 | .live => 3 | .degraded => 4 | .hold => 5 | .releasing => 6

/-- Hold reason codes. -/
def holdReasonCode : HoldReason → Nat
  | .none => 0 | .deadline => 1 | .managed => 2

/-- Boom codes. -/
def boomCode : Boom → Nat
  | .up => 1 | .down => 2 | .unknown => 0

/-- Power codes, 0 for none. -/
def powerCode : Option Power → Nat
  | none => 0 | some .on => 1 | some .off => 2 | some .defrost => 3

/-- Direction codes, 0 for none. -/
def directionCode : Option Direction → Nat
  | none => 0 | some .up => 1 | some .down => 2

/-- Disposition codes. -/
def dispositionCode : Disposition → Nat
  | .management => 1 | .dropMalformed => 2 | .dropNull => 3 | .dropAbsent => 4 | .dropRedirectFault => 5
  | .dropPoliced => 6 | .dropDuplicate => 7 | .dropLate => 8 | .dropHeld => 9 | .dropNoPath => 10
  | .dropNoCell => 11 | .dropQueueFull => 12 | .dropPool => 13 | .absorbed => 14 | .forwarded => 15

/-- Kind codes; NONE is 5 (R192). -/
def captureKindCode : CaptureKind → Nat
  | .absent => 0 | .general => 1 | .crane => 2 | .reefer => 3 | .redirect => 4 | .none => 5

/-- The kind of a treatment. -/
def kindOf : Treatment → CaptureKind
  | .absent => .absent
  | .general _ => .general
  | .crane _ => .crane
  | .reefer _ _ => .reefer
  | .redirect _ => .redirect

/-- Result codes. -/
def resultCode : ResultCode → Nat
  | .ok => 0 | .badCommand => 1 | .badTable => 2 | .badIndex => 3 | .badValue => 4 | .busy => 5 | .refused => 6
  | .notRun => 7

/-- The source kind of an event (8.1). -/
def eventKind : Event → SourceKind
  | .linkDown => .port | .linkUp => .port
  | .degraded => .crane | .holdDeadline => .crane | .holdManaged => .crane | .released => .crane | .pathPoor => .crane
  | .holeSet => .coverage | .holeCleared => .coverage
  | .highEnter => .reefer | .highLeave => .reefer | .lowEnter => .reefer | .lowLeave => .reefer
  | .powerEnter => .reefer | .powerLeave => .reefer | .alarmEnter => .reefer | .alarmLeave => .reefer
  | .staleEnter => .reefer | .staleLeave => .reefer | .lost => .reefer | .mismatch => .reefer
  | .triggered => .capture | .frozen => .capture

/-- Source kind codes (R192). -/
def sourceKindCode : SourceKind → Nat
  | .crane => 1 | .coverage => 2 | .reefer => 3 | .capture => 4 | .port => 5

/-- Event codes, numbered within the source kind in the order of the table of 8.1, from 1 (R194). -/
def eventCode : Event → Nat
  | .linkDown => 1 | .linkUp => 2
  | .degraded => 1 | .holdDeadline => 2 | .holdManaged => 3 | .released => 4 | .pathPoor => 5
  | .holeSet => 1 | .holeCleared => 2
  | .highEnter => 1 | .highLeave => 2 | .lowEnter => 3 | .lowLeave => 4 | .powerEnter => 5 | .powerLeave => 6
  | .alarmEnter => 7 | .alarmLeave => 8 | .staleEnter => 9 | .staleLeave => 10 | .lost => 11 | .mismatch => 12
  | .triggered => 1 | .frozen => 2

/-- Edge select codes. -/
def edgeCode : EdgeSelect → Nat
  | .none => 0 | .enter => 1 | .leave => 2 | .both => 3

/-- Coverage state codes. -/
def coverCode : CoverState → Nat
  | .unknown => 0 | .good => 1 | .hole => 2

/-- Capture state codes. -/
def captureStateCode : CaptureState → Nat
  | .off => 0 | .armed => 1 | .sequence => 2 | .post => 3 | .tracing => 4 | .frozen => 5

/-- Capture mode codes (R196). -/
def captureModeCode : CaptureMode → Nat
  | .countA => 1 | .countAOrB => 2 | .countAAndB => 3 | .bThenCountA => 4 | .aThenTrace => 5 | .trace => 6

/-! ### Frames the part composes -/

/-- A generated frame from the station address, its data field padded to 46 bytes (R192, R195). -/
def generated (id : Identity) (dst : Address) (etherType : EtherType) (content : List Byte) : Frame :=
  { dst := dst, src := id.station, etherType := etherType, data := padTo 46 content }

/-- A frame with its header cell field, offset 2 of the data field, set to a cell (R35, R193). -/
def withCell (f : Frame) (c : Cell) : Frame := { f with data := f.data.set 2 (BitVec.ofNat 8 c.val) }

/-- A hold order of a link, its cell field not yet written (R65, R193). -/
def holdOrder (id : Identity) (bearerType : EtherType) (now : QuayTime) (l : CraneLink) (sequence counter : Sequence) :
    Frame :=
  generated id 0xFFFFFFFFFFFF#48 bearerType
    (put8 1 ++ put8 0x80 ++ put8 0 ++ put16 l.config.bearer.toNat ++ put16 sequence.toNat ++
      put16 (l.config.template.length + 8) ++ put8 0 ++ l.config.template ++
      put8 (holdReasonCode l.reason) ++ put8 0 ++ put16 counter.toNat ++ put32 now.toNat)

/-- A notice record as carried, 18 bytes (R194). -/
def putNotice (n : Notice) : List Byte :=
  put8 (sourceKindCode (eventKind n.event)) ++ put8 (eventCode n.event) ++ put16 n.index ++ put8 n.level ++
    putFlag n.data.isSome ++ put16 (n.data.getD 0).toNat ++ put32 n.time.toNat ++ zeros 6

/-- A notice frame (R158, R194). -/
def noticeFrame (id : Identity) (dst : Address) (now : QuayTime) (number : Sequence) (remaining : Nat) (lost : Count16)
    (notices : List Notice) : Frame :=
  generated id dst id.managementEtherType
    (put8 3 ++ put8 notices.length ++ put16 number.toNat ++ put32 now.toNat ++ put8 remaining ++ put8 0 ++
      put16 lost.toNat ++ notices.flatMap putNotice)

/-- The check bits of a record: HIGH, LOW, POWER, ALARM and the range flag (R194, R198). -/
def checkBits (r : ReeferRecord) : List Bool := [r.high, r.low, r.powerCheck, r.alarmCheck, r.rangeFlag]

/-- A summary record as carried, 27 bytes and its alarm codes (R144, R194). -/
def putSummaryRecord (slot : Slot) (s : ReeferSlot) : List Byte :=
  put16 slot.val ++ s.config.mark ++ putTemp s.record.confirmed ++ putTemp s.record.returnTemp ++
    putTemp s.record.setpoint ++ put8 (powerCode s.record.power) ++ put8 (bitsOf (checkBits s.record)) ++
    put8 (freshnessCode s.record.freshness) ++ put32 (s.record.excursion / 600) ++ put8 s.record.alarms.length ++
    s.record.alarms

/-- A summary frame (R144, R194). -/
def summaryFrame (id : Identity) (dst : Address) (now : QuayTime) (number : Sequence)
    (records : List (Slot × ReeferSlot)) : Frame :=
  generated id dst id.managementEtherType
    (put8 4 ++ put8 0 ++ put16 number.toNat ++ put32 now.toNat ++ put8 records.length ++ put8 0 ++
      records.flatMap fun e => putSummaryRecord e.1 e.2)

/-- A command's fixed result part, 8 bytes (R196). -/
def putResult (a : Answer) : List Byte :=
  put8 a.code.toNat ++ put8 (resultCode a.result) ++ zeros 2 ++ put32 a.value.toNat

/-- A management reply (R185, R196). -/
def replyFrame (id : Identity) (q : Request) (results : List Answer) : Frame :=
  generated id q.source id.managementEtherType
    (put8 2 ++ put8 0 ++ put16 q.tag.toNat ++ put8 results.length ++ zeros 3 ++ results.flatMap putResult ++
      results.flatMap fun a => a.data)

/-! ### Table entries as Read Entries returns them (R198) -/

/-- A CELLS entry, 6 bytes. -/
def putCellEntry (c : CellEntry) : List Byte :=
  putFlag c.present ++ put8 c.quayPort.val ++ put16 c.label.toNat ++ putFlag c.portUp ++ put8 0

/-- The segment field of a BEARERS entry: of GENERAL, NONE for other kinds. -/
def treatmentSegment : Treatment → Option Segment
  | .general g => g
  | .absent => none
  | .crane _ => none
  | .reefer _ _ => none
  | .redirect _ => none

/-- The field at offset 7 of a BEARERS entry. -/
def treatmentSpecial : Treatment → Nat
  | .absent => 0
  | .general _ => 0
  | .crane l => l.val
  | .reefer slot _ => slot.val
  | .redirect t => t.toNat

/-- The absorb flag of a BEARERS entry. -/
def treatmentAbsorbs : Treatment → Bool
  | .reefer _ absorb => absorb
  | .absent => false
  | .general _ => false
  | .crane _ => false
  | .redirect _ => false

/-- A BEARERS entry, 32 bytes. -/
def putDescriptor (d : Descriptor) : List Byte :=
  put8 (captureKindCode (kindOf d.treatment)) ++
    put8 (d.cls.val + 4 * bitsOf [d.coarse, d.demote, treatmentAbsorbs d.treatment]) ++ put16 d.rate ++ put8 d.burst ++
    putCell d.homeCell ++ putSegment (treatmentSegment d.treatment) ++ put16 (treatmentSpecial d.treatment) ++ put8 0 ++
    putFlag d.touched ++ put8 0 ++ put32 d.level ++ put32 d.stamp.toNat ++ put32 d.framesPassed.toNat ++
    put32 d.bytesPassed.toNat ++ put32 d.framesPoliced.toNat

/-- The nine counters of R71 in the order of its table, then the selector's two. -/
def putCraneCounts (c : CraneCounts) : List Byte :=
  put16 c.duplicates.toNat ++ put16 c.late.toNat ++ put16 c.gapFrames.toNat ++ put16 c.controlExcess.toNat ++
    put16 c.strayFrames.toNat ++ put16 c.holdsEntered.toNat ++ put16 c.holdsSent.toNat ++ put16 c.holdsDeferred.toNat ++
    put16 c.tokensIgnored.toNat ++ put16 c.pathChanges.toNat ++ put16 c.noPath.toNat

/-- The configuration part of a CRANES entry, 86 bytes. -/
def putCraneConfig (c : CraneConfig) : List Byte :=
  putFlag c.enable ++ put8 c.threshold ++ put16 c.bearer.toNat ++ put16 c.period ++ put16 c.jitter ++ put8 c.recovery ++
    put8 c.template.length ++ put16 c.overlap ++ put16 c.window ++ put16 c.tokenA.toNat ++ put16 c.tokenB.toNat ++
    put8 c.degradedLevel ++ put8 c.holdLevel ++ put8 c.releasedLevel ++ put8 c.pathPoorLevel ++ padTo 64 c.template

/-- A link's state, counts, reason, position and flags, 8 bytes at offset 86 of its entry. -/
def putCraneStatus (l : CraneLink) : List Byte :=
  put8 (craneStateCode l.state) ++ put8 l.missed ++ put8 l.streak ++ put8 (holdReasonCode l.reason) ++
    putSegment l.segment ++ put8 (boomCode l.boom) ++
    put16 (bitsOf [l.upDeadline.isSome, l.downDeadline.isSome, l.upAlive, l.upSeq.isSome, l.downSeq.isSome,
      l.lastSent.isSome, l.releaseExpiry.isSome, l.nextHold.isSome, l.overlapExpiry.isSome, l.pathPoor,
      l.commitPending, l.applyNow])

/-- A link's deadlines, sequences and hold order counter, 28 bytes at offset 94 of its entry. -/
def putCraneTimes (l : CraneLink) : List Byte :=
  putTime l.upDeadline ++ putTime l.downDeadline ++ putSequence l.upSeq ++ putSequence l.downSeq ++
    putSequence l.lastSent ++ put16 l.holdCounter.toNat ++ putTime l.releaseExpiry ++ putTime l.nextHold ++
    putTime l.overlapExpiry

/-- A link's resolved, previous and send set, 12 bytes with the reserved one at offset 122 of its entry. -/
def putCraneSets (l : CraneLink) : List Byte :=
  putCells l.resolved 2 ++ putCells l.previous 2 ++ putCells l.sendSet 4 ++ put8 0

/-- A CRANES entry, 192 bytes. -/
def putCraneLink (l : CraneLink) : List Byte :=
  putCraneConfig l.config ++ putCraneStatus l ++ putCraneTimes l ++ putCraneSets l ++ putCraneCounts l.counts ++
    zeros 36

/-- A path entry's two cells. -/
def putPathEntry (e : PathEntry) : List Byte := putCell e.primary ++ putCell e.alternate

/-- A PROFILES entry, 24 bytes. -/
def putProfile (p : Profile) : List Byte :=
  put8 p.highMargin ++ put8 p.lowMargin ++ put8 p.hysteresis ++ put8 p.spikeStep ++ put8 p.band ++ put8 p.reportDelta ++
    put16 p.staleTime ++ put32 p.lostTime ++ put8 (edgeCode p.highEdges) ++ put8 (edgeCode p.lowEdges) ++
    put8 (edgeCode p.powerEdges) ++ put8 (edgeCode p.alarmEdges) ++ put8 (edgeCode p.staleEdges) ++ put8 p.highLevel ++
    put8 p.lowLevel ++ put8 p.powerLevel ++ put8 p.alarmLevel ++ put8 p.staleLevel ++ zeros 2

/-- The configuration part of a REEFERS entry, 14 bytes. -/
def putReeferConfig (c : ReeferConfig) : List Byte :=
  putFlag c.registered ++ c.mark ++ put8 c.profile.val ++ putSegment c.segment

/-- A slot's values, flags and alarm codes, 22 bytes with the reserved one at offset 14 of its entry. The byte of a last
report counter that is none is 0, the model's choice (log entry 26). -/
def putReeferValues (r : ReeferRecord) : List Byte :=
  put8 (freshnessCode r.freshness) ++ put8 (powerCode r.power) ++ putTemp r.confirmed ++ putTemp r.candidate ++
    put8 r.candidateCount ++ put8 (bitsOf (checkBits r ++ [r.changed])) ++
    put8 (bitsOf [r.lastCounter.isSome, r.stale.isSome, r.lost.isSome]) ++ put8 (r.lastCounter.getD 0).toNat ++
    putTemp r.returnTemp ++ putTemp r.setpoint ++ putTemp r.summarised ++ put8 r.alarms.length ++ padTo 4 r.alarms ++
    put8 0

/-- A slot's accumulator, times and counts, 28 bytes with the reserved ones at offset 36 of its entry. -/
def putReeferTimes (r : ReeferRecord) : List Byte :=
  put32 r.excursion ++ put32 r.lastTime.toNat ++ putTime r.stale ++ putTime r.lost ++ put16 r.mismatches.toNat ++
    put16 r.duplicates.toNat ++ zeros 8

/-- A REEFERS entry, 64 bytes. -/
def putReeferSlot (s : ReeferSlot) : List Byte :=
  putReeferConfig s.config ++ putReeferValues s.record ++ putReeferTimes s.record

/-- A COVERAGE entry, 16 bytes. -/
def putCoverEntry (e : CoverEntry) : List Byte :=
  put8 (coverCode e.state) ++ putFlag e.age.isSome ++ put16 e.estimate ++ put8 e.count ++ zeros 3 ++
    put32 e.lastTime.toNat ++ putTime e.age

/-- A capture entry as Capture Read returns it, 16 bytes (R197). -/
def putCaptureEntry (e : CaptureEntry) : List Byte :=
  put32 e.time.toNat ++ put8 (portNumber e.port) ++ put8 (directionCode e.direction) ++ putFlag e.identity.isSome ++
    put8 (match e.cls with | none => 255 | some c => c.val) ++ put16 ((e.identity.map fun i => i.1.toNat).getD 0) ++
    put16 ((e.identity.map fun i => i.2.toNat).getD 0) ++ put16 e.size ++ put8 (dispositionCode e.disposition) ++
    put8 (bitsOf [e.matchedA, e.matchedB])

end Sys2Proof.Machine
end

