-- ==== Sys2Proof/Machine/Ops.lean ====
section
/-! DEFINITION. The shared operations: the settings by name (10.5), the Frame Store's pool, queues and schedulers (R33,
R35, R40), the offer of a frame (R35, R38), and the offer of a notice with the emission it may bring (R151 to R159). -/

namespace Sys2Proof.Machine

/-! ### Settings by name (10.5) -/

/-- The value of a setting. -/
def State.setting (s : State) (i : Nat) : Nat := s.settings.get i

/-- The index of the limit of a queue (10.5). -/
def limitIndex (p : Port) (c : Class) : Nat := 2 + 4 * portNumber p + c.val

/-- The index of the weight of a class 1-3 on a port (10.5). -/
def weightIndex (p : Port) (c : Class) : Nat := 22 + 3 * portNumber p + (c.val - 1)

/-- The bearer type setting (R2). -/
def State.bearerType (s : State) : EtherType := BitVec.ofNat 16 (s.setting 0)

/-- The limit of a queue (R34). -/
def State.queueLimit (s : State) (p : Port) (c : Class) : Nat := s.setting (limitIndex p c)

/-! ### Ports, queues and the pool -/

/-- A port. -/
def FrameStore.port (st : FrameStore) (p : Port) : PortState := st.ports.get (portNumber p)

/-- The store with a port replaced. -/
def FrameStore.setPort (st : FrameStore) (p : Port) (v : PortState) : FrameStore :=
  { st with ports := st.ports.set (portNumber p) v }

/-- The key of the queue of a port and class. -/
def queueKey (p : Port) (c : Class) : Nat := 4 * portNumber p + c.val

/-- The queue of a port and class. -/
def FrameStore.queue (st : FrameStore) (p : Port) (c : Class) : Queue := st.queues.get (queueKey p c)

/-- The store with a queue replaced. -/
def FrameStore.setQueue (st : FrameStore) (p : Port) (c : Class) (q : Queue) : FrameStore :=
  { st with queues := st.queues.set (queueKey p c) q }

/-- The return of blocks to the pool (R33). -/
def FrameStore.giveBack (st : FrameStore) (blocks : Nat) : FrameStore := { st with free := st.free + blocks }

/-- The taking of blocks at an admission, which may lower the least free mark (R33). -/
def FrameStore.take (st : FrameStore) (blocks : Nat) : FrameStore :=
  { st with free := st.free - blocks, least := min st.least (st.free - blocks) }

/-- The blocks held by a list of entries. -/
def blocksHeld (entries : List QueueEntry) : Nat := (entries.map fun e => e.blocks).sum

/-! ### The scheduler (R40) -/

/-- The class that follows a turn class in the cycle 1, 2, 3, 1. -/
def nextClass (c : Class) : Class :=
  match c.val with
  | 1 => 2
  | 2 => 3
  | _ => 1

/-- What the scheduler selects: the class, with the turn class and credit after the selection (R40). -/
def chooseClass (turn : Class) (credit : Nat) (waits : Class → Bool) (weight : Class → Nat) :
    Option (Class × Class × Nat) :=
  if waits 0 then some (0, turn, credit)
  else if decide (0 < credit) && waits turn then some (turn, turn, credit - 1)
  else if waits (nextClass turn) then some (nextClass turn, nextClass turn, weight (nextClass turn) - 1)
  else if waits (nextClass (nextClass turn)) then
    some (nextClass (nextClass turn), nextClass (nextClass turn), weight (nextClass (nextClass turn)) - 1)
  else if waits turn then some (turn, turn, weight turn - 1)
  else none

/-- The scheduler of a port selects, if the port is ready and an entry waits, and the selected frame's transmission
begins (R40, R42). -/
def FrameStore.select (st : FrameStore) (settings : Table Nat) (p : Port) : FrameStore :=
  let port := st.port p
  if port.up && port.tx.isNone then
    match chooseClass port.turn port.credit (fun c => !(st.queue p c).entries.isEmpty)
        (fun c => settings.get (weightIndex p c)) with
    | none => st
    | some (c, turn, credit) =>
      match (st.queue p c).entries with
      | [] => st
      | e :: rest =>
        (st.setQueue p c { st.queue p c with entries := rest }).setPort p
          { port with tx := some { entry := e, cls := c, left := frameSize e.frame + 20 }
                      turn := turn, credit := credit }
  else st

/-! ### Admission (R35) -/

/-- Why an offer is refused (R35). -/
inductive Cause where
  | linkDown | queueFull | pool
deriving DecidableEq, Repr

/-- The answer to an offer (R38). -/
inductive Admission where
  | admitted
  | refused (cause : Cause)
deriving DecidableEq, Repr

/-- The judgement of an offer of an entry to the queue of a port and class, on the state as it stands (R35). A queue
over its limit, which no run reaches, refuses as a full one does. -/
def FrameStore.judge (st : FrameStore) (settings : Table Nat) (p : Port) (c : Class) (blocks : Nat) : Admission :=
  if !(st.port p).up then .refused .linkDown
  else if settings.get (limitIndex p c) ≤ (st.queue p c).entries.length then .refused .queueFull
  else if st.free < blocks + (if c = 0 then 0 else settings.get 1) then .refused .pool
  else .admitted

/-- The queue with an offer counted by its outcome (R35). -/
def Queue.counted (q : Queue) : Admission → Queue
  | .admitted => { q with admitted := q.admitted + 1 }
  | .refused .linkDown => { q with linkDownRefusals := q.linkDownRefusals + 1 }
  | .refused .queueFull => { q with fullRefusals := q.fullRefusals + 1 }
  | .refused .pool => { q with poolRefusals := q.poolRefusals + 1 }

/-- An offer to the egress side: judged, counted, and if admitted given its blocks and appended, whereupon the
scheduler of a ready port selects (R35, R40). -/
def FrameStore.offer (st : FrameStore) (settings : Table Nat) (p : Port) (c : Class) (e : QueueEntry) :
    Admission × FrameStore :=
  let q := (st.queue p c).counted (st.judge settings p c e.blocks)
  match st.judge settings p c e.blocks with
  | .admitted =>
    (.admitted, ((st.take e.blocks).setQueue p c { q with entries := q.entries ++ [e] }).select settings p)
  | .refused cause => (.refused cause, st.setQueue p c q)

/-- An offer of a frame. Toward a quay port its header cell field is set to the sending cell (R35). -/
def State.offer (s : State) (p : Port) (c : Class) (cell : Option Cell) (origin : Origin) (f : Frame) :
    Admission × State :=
  let sent := match cell with
    | none => f
    | some k => withCell f k
  let r := s.store.offer s.settings p c { frame := sent, blocks := blocksOf (frameSize sent), origin := origin }
  (r.1, { s with store := r.2 })

/-- The disposition an offer gives a received frame (R36). -/
def dispositionOf : Admission → Disposition
  | .admitted => .forwarded
  | .refused .linkDown => .dropQueueFull
  | .refused .queueFull => .dropQueueFull
  | .refused .pool => .dropPool

/-- The quay port of a number 0-3. -/
def quayPort (n : Fin 4) : Port := portOf n.val

/-! ### Cells -/

/-- A cell's entry. -/
def State.cell (s : State) (c : Cell) : CellEntry := s.classifier.cells.get c.val

/-- The cell is present and its port up flag is set. -/
def State.cellUp (s : State) (c : Cell) : Bool := (s.cell c).present && (s.cell c).portUp

/-- A crane link's record. -/
def State.link (s : State) (l : Link) : CraneLink := s.links.get l.val

/-- The state with a crane link's record replaced. -/
def State.setLink (s : State) (l : Link) (v : CraneLink) : State := { s with links := s.links.set l.val v }

/-- The sixteen links in order. -/
def allLinks : List Link := List.finRange 16

/-- The five ports in order. -/
def allPorts : List Port := [.q0, .q1, .q2, .q3, .y]

/-- The four quay ports in order. -/
def quayPorts : List Port := [.q0, .q1, .q2, .q3]

/-- The four classes in order. -/
def allClasses : List Class := [0, 1, 2, 3]

/-! ### Notices (chapter 8) -/

/-- The suppressed counters after one more suppressed notice of a source kind (R152). -/
def Suppressed.bump (c : Suppressed) : SourceKind → Suppressed
  | .crane => { c with crane := bump16 c.crane }
  | .coverage => { c with coverage := bump16 c.coverage }
  | .reefer => { c with reefer := bump16 c.reefer }
  | .capture => { c with capture := bump16 c.capture }
  | .port => { c with port := bump16 c.port }

/-- The lowest queued level, none when the queue is empty (8.3). -/
def lowestLevel : List Notice → Option Nat
  | [] => none
  | n :: rest =>
    match lowestLevel rest with
    | none => some n.level
    | some m => some (min n.level m)

/-- The queue without the newest notice of a level (R155). -/
def evictNewest (queue : List Notice) (level : Nat) : List Notice :=
  (queue.reverse.eraseP fun n => n.level == level).reverse

/-- The notices of an emission: at most sixteen, highest level first, and within one level oldest first (R158). -/
def selectNotices (queue : List Notice) : List Notice :=
  ([7, 6, 5, 4, 3, 2, 1].flatMap fun level => queue.filter fun n => n.level == level).take 16

/-- The queue without the selected notices, which are the oldest of their levels (R159). -/
def withoutSelected (queue chosen : List Notice) : List Notice := chosen.foldl (fun q n => q.erase n) queue

/-- Emission attempts, as long as the unit is READY with notices queued and a destination: each selects, composes and
offers a notice frame and acts on the answer (R157 to R159). The bound is the number of notices queued, of which
every further attempt finds fewer. -/
def emit : Nat → State → State
  | 0, s => s
  | fuel + 1, s =>
    if s.notices.pacing.isSome || s.notices.queue.isEmpty || decide (s.setting 52 = 0) then s
    else
      let u := s.notices
      let chosen := selectNotices u.queue
      let rest := withoutSelected u.queue chosen
      let frame := noticeFrame s.identity (BitVec.ofNat 48 (s.setting 52)) s.quayTime (u.counter + 1) rest.length u.lost
        chosen
      let gap := s.setting 51
      let r := s.offer .y 1 none .notice frame
      match r.1 with
      | .admitted =>
        emit fuel { r.2 with notices := { u with
          queue := rest, counter := u.counter + 1, framesSent := u.framesSent + 1
          noticesSent := u.noticesSent + BitVec.ofNat 32 chosen.length
          pacing := if gap = 0 then none else some (later s.quayTime gap) } }
      | .refused _ =>
        { r.2 with notices := { u with
          framesRefused := bump16 u.framesRefused, pacing := some (later s.quayTime (max 1 gap)) } }

/-- The emission attempts an event of R157 brings. -/
def State.emitNotices (s : State) : State := emit s.notices.queue.length s

/-- An offer of a notice, judged on the floor and the room (R151, R152, R154, R155). -/
def State.takeNotice (s : State) (n : Notice) : State :=
  let u := s.notices
  if n.level ≤ s.setting 50 then
    { s with notices := { u with suppressed := u.suppressed.bump (eventKind n.event) } }
  else if u.queue.length < 64 then
    ({ s with notices := { u with queue := u.queue ++ [n] } }).emitNotices
  else
    let low := (lowestLevel u.queue).getD 0
    if low < n.level then
      ({ s with notices := { u with queue := evictNewest u.queue low ++ [n], lost := bump16 u.lost } }).emitNotices
    else { s with notices := { u with lost := bump16 u.lost } }

/-- A block raises a notice at the present quay time; a level of 0 is not offered (8, R151). -/
def State.notify (s : State) (event : Event) (index level : Nat) (data : Option (BitVec 16)) : State :=
  if level = 0 then s
  else s.takeNotice { event := event, index := index, level := level, time := s.quayTime, data := data }

end Sys2Proof.Machine
end

