-- ==== Sys2Proof/Machine/Management.lean ====
section
/-! DEFINITION. The Management Endpoint's execution of a command (R183), its reply (R184, R185), the settings (R187),
and the command that reaches no owner (BAD_COMMAND). -/

namespace Sys2Proof.Machine

/-! ### A command and its result (R183 to R185) -/

/-- What the owner of a command answers: result code, result value, result data. -/
structure Ruling where
  result : ResultCode
  value : BitVec 32
  data : List Byte
deriving DecidableEq, Repr

/-- A result code alone. The result value of a command that carries none, is refused or is NOT_RUN is 0, the model's
choice (log entry 24). -/
def ruling (c : ResultCode) : Ruling := { result := c, value := 0, data := [] }

/-- OK with result data, its result value 0 (log entry 24). -/
def okData (data : List Byte) : Ruling := { result := .ok, value := 0, data := data }

/-- OK with a result value. -/
def okValue (v : BitVec 32) : Ruling := { result := .ok, value := v, data := [] }

/-- The result of a command with its code as received. -/
def Ruling.answer (r : Ruling) (code : Byte) : Answer :=
  { code := code, result := r.result, value := r.value, data := r.data }

/-- The reply data space of a request (R184). -/
def Execution.space (e : Execution) : Nat := 2022 - 8 * e.request.commands.length

/-- The result data of the commands already executed (R184). -/
def Execution.used (e : Execution) : Nat := (e.results.map fun a => a.data.length).sum

/-- The execution with one more result; a NOT_RUN stops the commands after it (R183 test 1). -/
def Execution.push (e : Execution) (a : Answer) : Execution :=
  { e with results := e.results ++ [a], stopped := e.stopped || decide (a.result = .notRun) }

/-- The reply is composed and offered, and the request ends (R185). -/
def endRequest (origin : Origin) (e : Execution) (s : State) : State :=
  let a := s.offer .y 1 none origin (replyFrame s.identity e.request e.results)
  let ep := { a.2.endpoint with executing := none }
  match a.1 with
  | .admitted => { a.2 with endpoint := { ep with executed := ep.executed + 1 } }
  | .refused _ => { a.2 with endpoint := { ep with repliesLost := bump16 ep.repliesLost } }

/-- The state with the result of the last command shown (log entry 7). -/
def showAnswer (a : Answer) (s : State) : State := { s with endpoint := { s.endpoint with answer := some a } }

/-- A command of the executing request has its result; after the last one the request ends (R185). -/
def settle (e : Execution) (a : Answer) (s : State) : State :=
  let next := e.push a
  let s := showAnswer a s
  if next.request.commands.length ≤ next.results.length then endRequest .reply next s
  else { s with endpoint := { s.endpoint with executing := some next } }

/-- The command is given NOT_RUN: it follows a NOT_RUN, or its result data would not fit (R183 tests 1 and 5, R184). -/
def Execution.cannotRun (e : Execution) (size : Nat) : Bool := e.stopped || decide (e.space < e.used + size)

/-- A management command is judged and executed (R183). `size` is the size of its result data, found from its
arguments alone (R184); `owner` is the judgement and effect of the owning chapter. A command with no request around
it is judged by its owner alone (log entry 7). -/
def runCommand (code : Byte) (size : Nat) (owner : State → Ruling × State) (s : State) : State :=
  match s.endpoint.executing with
  | none =>
    let r := owner s
    showAnswer (r.1.answer code) r.2
  | some e =>
    if e.cannotRun size then settle e ((ruling .notRun).answer code) s
    else
      let r := owner s
      settle e (r.1.answer code) r.2

/-- An owner's judgement that refuses with a code, or changes the state with result OK. -/
def guarded (code : ResultCode) (effect : State → State) (s : State) : Ruling × State :=
  if code = .ok then (ruling .ok, effect s) else (ruling code, s)

/-- The judgement of a range named by a first index and a count, on a table of some entries (R186): a count of 0 is
BAD_VALUE, a range beyond the last entry BAD_INDEX (in this order, log entry 13). -/
def rangeCode (entries first count : Nat) : ResultCode :=
  if count = 0 then .badValue else if entries < first + count then .badIndex else .ok

/-- BAD_COMMAND (R183 tests 2 to 4): a command that reaches no owner changes nothing and is given the code of the test
it fails. -/
def execBadCommand (c : WireCommand) (s : State) : Host.Outcome State Fault Refusal :=
  .next (runCommand c.code 0 (fun s => (ruling (badCommandResult c), s)) s)

/-! ### Settings (R187) -/

/-- The least and greatest value of a setting, but for the bearer type's forbidden one (the table of 10.5). -/
def settingRange (index : Nat) : Nat × Nat :=
  if index = 0 then (0, 65535)
  else if index = 1 then (0, 4096)
  else if index < 22 then (1, 512)
  else if index < 37 then (1, 15)
  else
    match index with
    | 39 => (1, 255)
    | 40 => (0, 255)
    | 41 => (0, 4080)
    | 42 => (0, 1023)
    | 43 => (1, 15)
    | 44 => (1, 3600)
    | 48 => (10, 3600)
    | 49 => (0, 281474976710655)
    | 51 => (0, 10000)
    | 52 => (0, 281474976710655)
    | _ => (0, 7)

/-- The number of frames waiting in the queue whose limit has an index 2 to 21 (R34). -/
def limitLength (s : State) (index : Nat) : Nat := (s.store.queues.get (index - 2)).entries.length

/-- The judgement of a value written to a setting, index and value (R187 and the owning rules). -/
def settingCode (s : State) (index value : Nat) : ResultCode :=
  if 53 < index then .badIndex
  else if !within (settingRange index).1 (settingRange index).2 value then .badValue
  else if index = 0 ∧ value = s.identity.managementEtherType.toNat then .badValue
  else if 2 ≤ index ∧ index < 22 ∧ value < limitLength s index then .busy
  else .ok

/-- Queued notices at or below a raised floor are purged and counted as suppressed (R153). -/
def NoticeUnit.purge (u : NoticeUnit) (floor : Nat) : NoticeUnit :=
  { u with
    queue := u.queue.filter fun n => decide (floor < n.level)
    suppressed := (u.queue.filter fun n => decide (n.level ≤ floor)).foldl
      (fun c n => c.bump (eventKind n.event)) u.suppressed }

/-- An accepted write of a setting, with the effects its owning rule gives: a written summary interval re-arms the
timer (R140), a raised floor purges (R153), a destination other than 0 may bring an emission attempt (R157). -/
def storeSetting (index value : Nat) (s : State) : State :=
  let t := { s with settings := s.settings.set index value }
  match index with
  | 48 => { t with summary := { t.summary with timer := later t.quayTime (value * 1000) } }
  | 50 => if s.setting 50 < value then { t with notices := t.notices.purge value } else t
  | 52 => if value = 0 then t else t.emitNotices
  | _ => t

/-- A write of a setting: judged, and if accepted stored (R187). -/
def writeSetting (index value : Nat) (s : State) : Ruling × State :=
  guarded (settingCode s index value) (storeSetting index value) s

/-- The code of Write Entry. -/
def writeCode : Byte := 3

/-- The code of Clear Entries. -/
def clearCode : Byte := 4

/-- WRITE_SETTINGS (R187). -/
def execWriteSettings (index : Nat) (value : BitVec 48) (s : State) : Host.Outcome State Fault Refusal :=
  .next (runCommand writeCode 0 (writeSetting index value.toNat) s)

/-- BEARER_TYPE_WRITE (R2): setting 0. -/
def execBearerTypeWrite (value : BitVec 48) (s : State) : Host.Outcome State Fault Refusal :=
  .next (runCommand writeCode 0 (writeSetting 0 value.toNat) s)

/-- QUEUE_LIMIT_WRITE (R34): setting 2 + 4p + c. -/
def execQueueLimitWrite (p : Port) (c : Class) (value : BitVec 48) (s : State) : Host.Outcome State Fault Refusal :=
  .next (runCommand writeCode 0 (writeSetting (limitIndex p c) value.toNat) s)

/-- NOTICE_FLOOR_WRITE (R152, R153): setting 50. -/
def execNoticeFloorWrite (value : BitVec 48) (s : State) : Host.Outcome State Fault Refusal :=
  .next (runCommand writeCode 0 (writeSetting 50 value.toNat) s)

/-- SUMMARY_INTERVAL_WRITE (R140): setting 48. -/
def execSummaryIntervalWrite (value : BitVec 48) (s : State) : Host.Outcome State Fault Refusal :=
  .next (runCommand writeCode 0 (writeSetting 48 value.toNat) s)

/-- NOTICE_DESTINATION_WRITE (R156): setting 52. -/
def execNoticeDestinationWrite (value : BitVec 48) (s : State) : Host.Outcome State Fault Refusal :=
  .next (runCommand writeCode 0 (writeSetting 52 value.toNat) s)

/-- The judgement of a clear of a range of settings: of each write of a cold value, the first refusal in index order
gives the code (R187; log entry 17). -/
def clearSettingsCode (s : State) (first : Nat) : Nat → ResultCode
  | 0 => .ok
  | n + 1 =>
    match settingCode s first (Settings.coldValue s.identity first) with
    | .ok => clearSettingsCode s (first + 1) n
    | c => c

/-- Each setting of a range takes its cold value with the effects of an accepted write, in index order (R187). -/
def coldSettings (first : Nat) : Nat → State → State
  | 0, s => s
  | n + 1, s => coldSettings (first + 1) n (storeSetting first (Settings.coldValue s.identity first) s)

/-- The judgement and effect of Clear Entries on SETTINGS (R187). -/
def clearSettings (first count : Nat) (s : State) : Ruling × State :=
  guarded (if rangeCode 54 first count = .ok then clearSettingsCode s first count else rangeCode 54 first count)
    (coldSettings first count) s

/-- CLEAR_SETTINGS (R187). -/
def execClearSettings (first count : Nat) (s : State) : Host.Outcome State Fault Refusal :=
  .next (runCommand clearCode 0 (clearSettings first count) s)

end Sys2Proof.Machine
end

