-- ==== Sys2Proof/Machine/Clock.lean ====
section
/-! DEFINITION. What the part does of itself when no command waits (log entry 1): a summary pass makes its next frame
step (R142), the Management Endpoint runs its request (R181, R183), an armed deadline that has been reached expires
(00_scope, "Quay time"), and otherwise the clock moves on, line time and quay time together (R42). -/

namespace Sys2Proof.Machine

/-! ### Deadlines -/

/-- The first of some deadlines that is due, by the command of its expiry. -/
def firstDue (now : QuayTime) : List (Option QuayTime × Instr) → Option Instr
  | [] => none
  | (d, i) :: rest => if due now d then some i else firstDue now rest

/-- The deadlines of a crane link, with the commands of their expiries. -/
def CraneLink.deadlines (k : CraneLink) (l : Link) : List (Option QuayTime × Instr) :=
  [(k.upDeadline, .deadlineExpiry l .up), (k.downDeadline, .deadlineExpiry l .down),
   (k.releaseExpiry, .releaseExpiry l), (k.nextHold, .holdOrderTimeExpiry l), (k.overlapExpiry, .overlapExpiry l)]

/-- The least index below a bound whose value meets a test. -/
def Table.firstBelow {α : Type} (t : Table α) (bound : Nat) (p : α → Bool) : Option Nat :=
  if p t.blank then (List.range bound).find? fun i => p (t.get i)
  else (t.listed.find? fun e => decide (e.1 < bound) && p e.2).map Prod.fst

/-- An index below 2048. -/
def below2048 (i : Nat) : Option (Fin 2048) := if h : i < 2048 then some ⟨i, h⟩ else none

/-- The expiry of the first due deadline of the part, in the order crane links, coverage entries, reefer slots (stale,
then lost), summary timer, pacing (log entry 14). -/
def State.dueExpiry (s : State) : Option Instr :=
  let now := s.quayTime
  (firstDue now (allLinks.flatMap fun l => (s.link l).deadlines l)).or <|
  (((s.coverage.entries.firstBelow 2048 fun e => due now e.age).bind below2048).map Instr.ageDeadlineExpiry).or <|
  (((s.registry.slots.firstBelow 2048 fun r => due now r.record.stale).bind below2048).map
    Instr.staleDeadlineExpiry).or <|
  (((s.registry.slots.firstBelow 2048 fun r => due now r.record.lost).bind below2048).map
    Instr.lostDeadlineExpiry).or <|
  firstDue now [(some s.summary.timer, .summaryTimerExpiry), (s.notices.pacing, .pacingDeadlineExpiry)]

/-! ### The clock -/

/-- The byte times left of the transmission on a port, if any. -/
def PortState.remaining (p : PortState) : Option Nat := p.tx.map fun t => t.left

/-- The byte times until the next completion or the next millisecond, whichever is first. -/
def State.wait (s : State) : Nat :=
  (allPorts.filterMap fun p => (s.store.port p).remaining).foldl min (Config.byteTimesPerMs - s.lineTime)

/-- A port after some byte times. -/
def PortState.after (p : PortState) (n : Nat) : PortState :=
  { p with tx := p.tx.map fun t => { t with left := t.left - n } }

/-- The state with the clock moved on by some byte times; a whole millisecond advances quay time (00_scope, R42). -/
def State.pass (s : State) (n : Nat) : State :=
  let store := { s.store with ports := s.store.ports.map fun p => p.after n }
  if s.lineTime + n < Config.byteTimesPerMs then { s with store := store, lineTime := s.lineTime + n }
  else { s with store := store, lineTime := 0, quayTime := s.quayTime + 1 }

/-- The completions of the transmissions that have no time left. -/
def State.completions (s : State) : List Instr :=
  allPorts.filterMap fun p =>
    if (s.store.port p).remaining = some 0 then some (.transmissionCompletion p) else none

/-- The clock moves to its next event; the transmissions that end then complete (R42, log entry 5). -/
def State.tick (s : State) : State :=
  let t := s.pass s.wait
  { t with pending := t.completions }

/-! ### The endpoint -/

/-- The request at the head of the list begins to execute and leaves the list (R181). -/
def beginRequest (q : Request) (rest : List Request) (s : State) : State :=
  { s with endpoint := { s.endpoint with
      requests := rest, executing := some { request := q, results := [], stopped := false } } }

/-- The next command of the executing request comes to be executed (R183). One with no command left has ended, and in
no run stands here. -/
def nextCommand (e : Execution) (s : State) : State :=
  match e.request.commands[e.results.length]? with
  | some c => { s with pending := [decodeCommand c] }
  | none => endRequest .reply e s

/-- What the part does of itself when no command waits (log entry 1). -/
def State.idle (s : State) : State :=
  if s.summary.passing then { s with pending := [.frameStep] }
  else
    match s.endpoint.executing, s.endpoint.requests with
    | some e, _ => nextCommand e s
    | none, q :: rest => beginRequest q rest s
    | none, [] =>
      match s.dueExpiry with
      | some i => { s with pending := [i] }
      | none => s.tick

end Sys2Proof.Machine
end

