-- ==== Sys2Proof/Machine/Coverage.lean ====
section
/-! DEFINITION. The Coverage Map (chapter 5): offers and their weight (R94 to R97), samples (R98 to R103), and ageing
(R104). -/

namespace Sys2Proof.Machine

/-- The index of the coverage entry of a segment and a cell (5.1). -/
def coverIndex (g : Segment) (c : Cell) : Nat := g.val * 32 + c.val

/-- A coverage entry. -/
def State.cover (s : State) (i : Nat) : CoverEntry := s.coverage.entries.get i

/-- A segment is shadowed: some crane link that is not IDLE stands there with its boom DOWN (R96). -/
def State.shadowed (s : State) (g : Segment) : Bool :=
  allLinks.any fun l =>
    !decide ((s.link l).state = .idle) && decide ((s.link l).segment = some g) && decide ((s.link l).boom = .down)

/-- The entry after a sample of quality q with weight k, its judgement aside (R98 steps 1 to 3). -/
def CoverEntry.sampled (e : CoverEntry) (now : QuayTime) (ageLimit q k : Nat) : CoverEntry :=
  { e with
    estimate := if e.count = 0 then 16 * q else movedEstimate e.estimate q k
    count := if e.count = 0 then 1 else min 255 (e.count + 1)
    lastTime := now
    age := some (later now (ageLimit * 1000)) }

/-- The counters of R102 after a judgement that took an entry from one state to another. -/
def CoverageMap.countEdge (m : CoverageMap) (before after : CoverState) : CoverageMap :=
  match before, after with
  | .good, .hole => { m with holesSet := bump16 m.holesSet }
  | .hole, .good => { m with holesCleared := bump16 m.holesCleared }
  | _, _ => m

/-- The notices of R102 for a judgement that took an entry from one state to another. -/
def noticeEdge (i estimate : Nat) (before after : CoverState) (s : State) : State :=
  match before, after with
  | .good, .hole => s.notify .holeSet i (s.setting 45) (some (BitVec.ofNat 16 estimate))
  | .hole, .good => s.notify .holeCleared i (s.setting 46) (some (BitVec.ofNat 16 estimate))
  | _, _ => s

/-- An entry takes a sample of quality q with weight k: the five steps of R98 with the judgement of R101 and its
notice (R102). -/
def takeSample (i q k : Nat) (s : State) : State :=
  let e := (s.cover i).sampled s.quayTime (s.setting 44) q k
  let after := judged e.state e.estimate e.count (s.setting 41) (s.setting 42) (s.setting 43)
  let m := s.coverage.countEdge e.state after
  noticeEdge i e.estimate e.state after
    { s with coverage := { m with
      entries := s.coverage.entries.set i { e with state := after }
      taken := s.coverage.taken + 1 } }

/-- One sample of an offer: taken by the entry of the segment and the named cell, or skipped when the value names no
present cell (R95). -/
def offerSample (g : Segment) (k : Nat) (s : State) (sample : Byte × Byte) : State :=
  match cellNamed sample.1 with
  | some c =>
    if (s.cell c).present then takeSample (coverIndex g c) sample.2.toNat k s
    else { s with coverage := { s.coverage with skipped := s.coverage.skipped + 1 } }
  | none => { s with coverage := { s.coverage with skipped := s.coverage.skipped + 1 } }

/-- The samples of an offer, the serving sample first (R95). -/
def offerSamples (g : Segment) (cell : Byte) (t : Trailer) (k : Nat) (s : State) : State :=
  ((cell, t.serving) :: t.pairs).foldl (offerSample g k) s

/-- An offer with a segment reaches the map: its weight is found and its samples are taken, or it is discarded
(R95 to R97). `crane` says that its source kind is CRANE. -/
def offerCoverage (crane : Bool) (g : Segment) (cell : Byte) (t : Trailer) (s : State) : State :=
  if crane || !s.shadowed g then offerSamples g cell t (s.setting 39) s
  else if s.setting 40 = 0 then { s with coverage := { s.coverage with discarded := s.coverage.discarded + 1 } }
  else offerSamples g cell t (s.setting 40)
    { s with coverage := { s.coverage with shadowed := s.coverage.shadowed + 1 } }

/-- An offer of a trailer, if the frame carries one and the offer has a segment (R94). -/
def offerTrailer (crane : Bool) (g : Option Segment) (cell : Byte) (t : Option Trailer) (s : State) : State :=
  match g, t with
  | some g, some t => offerCoverage crane g cell t s
  | _, _ => s

/-- The entry forgets its samples (R104). -/
def CoverEntry.forget (e : CoverEntry) : CoverEntry := { e with state := .unknown, count := 0, age := none }

/-- AGE_DEADLINE_EXPIRY (R104): an entry whose age deadline is armed and reached forgets its samples; an unarmed
deadline does not expire (log entry 2). -/
def execAgeDeadlineExpiry (i : Fin 2048) (s : State) : Host.Outcome State Fault Refusal :=
  .next (if due s.quayTime (s.cover i.val).age then
      { s with coverage := { s.coverage with
        entries := s.coverage.entries.set i.val (s.cover i.val).forget
        aged := bump16 s.coverage.aged } }
    else s)

end Sys2Proof.Machine
end

