-- ==== Sys2Proof/Machine/Capture.lean ====
section
/-! DEFINITION. The Capture Unit (chapter 9): the presentation of a frame with its disposition (R164 to R173). The
capture commands stand in Machine/Orders.lean. -/

namespace Sys2Proof.Machine

/-- What the Capture Unit is presented with (R164, R166): of a frame, the fields the classifier read, its effective
class, its capture kind, the crane state recorded for it, and its disposition. -/
structure Verdict where
  port : Port
  direction : Option Direction
  identity : Option (BitVec 12 × Sequence)
  size : Nat
  cls : Option Class
  kind : CaptureKind
  craneState : Option CraneState
  disposition : Disposition
deriving DecidableEq, Repr

/-- The frame's bearer number as a notice carries it, absent if the frame has none (R172). -/
def Verdict.bearerWord (v : Verdict) : Option (BitVec 16) := v.identity.map fun i => BitVec.setWidth 16 i.1

/-- The bearer range criterion: a frame without a bearer number meets the open range alone (R165, R166). -/
def Matcher.meetsRange (m : Matcher) (identity : Option (BitVec 12 × Sequence)) : Bool :=
  match identity with
  | none => decide (m.lo = 0) && decide (m.hi = 4095)
  | some (b, _) => decide (m.lo ≤ b.toNat) && decide (b.toNat ≤ m.hi)

/-- A presented frame matches a matcher: it is enabled and every criterion is met (R165, R166). -/
def Matcher.meets (m : Matcher) (v : Verdict) : Bool :=
  m.enable && m.portMask.getLsbD (portNumber v.port) &&
  (m.direction.isNone || decide (m.direction = v.direction)) &&
  m.meetsRange v.identity && m.kindMask.getLsbD (captureKindCode v.kind) &&
  m.dispositionMask.getLsbD (dispositionCode v.disposition - 1) &&
  (m.craneState.isNone || decide (m.craneState = v.craneState))

/-- Whether the unit records a frame (R168). -/
def CaptureUnit.records (u : CaptureUnit) (a b : Bool) : Bool :=
  match u.state with
  | .armed => !u.config.matchedOnly || a || b
  | .sequence => !u.config.matchedOnly || a || b
  | .post => !u.config.matchedOnly || a || b
  | .tracing => true
  | .off => false
  | .frozen => false

/-- An entry is appended as the newest; a full buffer loses its oldest (R168). -/
def CaptureUnit.record (u : CaptureUnit) (e : CaptureEntry) : CaptureUnit :=
  { u with buffer := if u.buffer.length < 256 then u.buffer ++ [e] else u.buffer.drop (u.buffer.length - 255) ++ [e]
           recorded := u.recorded + 1 }

/-- The entry recorded for a presentation (R169). -/
def captureEntry (now : QuayTime) (v : Verdict) (a b : Bool) : CaptureEntry :=
  { time := now, port := v.port, direction := v.direction, identity := v.identity, size := v.size, cls := v.cls,
    disposition := v.disposition, matchedA := a, matchedB := b }

/-- What a presentation does to the hit flags, the matches counters and the buffer (R167, R168). -/
def CaptureUnit.see (u : CaptureUnit) (now : QuayTime) (v : Verdict) (a b : Bool) : CaptureUnit :=
  let hit := { u with
    hitA := u.hitA || a, hitB := u.hitB || b
    matchesA := if a then u.matchesA + 1 else u.matchesA
    matchesB := if b then u.matchesB + 1 else u.matchesB }
  if u.records a b then hit.record (captureEntry now v a b) else hit

/-- Entry to FROZEN, with its notice (R172). -/
def freeze (s : State) : State :=
  { s with capture := { s.capture with state := .frozen } }.notify .frozen 0 (s.setting 53)
    (some (BitVec.ofNat 16 s.capture.buffer.length))

/-- The trigger, with its notice, and what follows it (R171, R172). -/
def trigger (v : Verdict) (s : State) : State :=
  let s := { s with capture := { s.capture with triggers := bump16 s.capture.triggers } }.notify .triggered 0
    (s.setting 53) (Verdict.bearerWord v)
  if s.capture.config.mode = .aThenTrace then
    { s with capture := { s.capture with state := .tracing, traceCount := 0 } }
  else
    let s := { s with capture := { s.capture with state := .post, postCount := 0 } }
    if s.capture.config.post = 0 then freeze s else s

/-- A qualifying frame raises the trigger count, and the unit triggers when it reaches N (R170). -/
def countToTrigger (v : Verdict) (s : State) : State :=
  let s := { s with capture := { s.capture with triggerCount := s.capture.triggerCount + 1 } }
  if s.capture.config.n ≤ s.capture.triggerCount then trigger v s else s

/-- What a presentation brings in ARMED, by mode (R170). -/
def actArmed (v : Verdict) (a b : Bool) (s : State) : State :=
  match s.capture.config.mode with
  | .countA => if a then countToTrigger v s else s
  | .countAOrB => if a || b then countToTrigger v s else s
  | .countAAndB => if a && b then countToTrigger v s else s
  | .bThenCountA => if b then { s with capture := { s.capture with state := .sequence, triggerCount := 0 } } else s
  | .aThenTrace => if a then trigger v s else s
  | .trace => s

/-- What a presentation brings in POST: each recorded frame counts, and the unit freezes at Pc (R171). -/
def actPost (recorded : Bool) (s : State) : State :=
  if recorded then
    let s := { s with capture := { s.capture with postCount := s.capture.postCount + 1 } }
    if s.capture.config.post ≤ s.capture.postCount then freeze s else s
  else s

/-- What a presentation brings in TRACING: each frame counts, and the unit freezes at N (R173). -/
def actTracing (s : State) : State :=
  let s := { s with capture := { s.capture with traceCount := s.capture.traceCount + 1 } }
  if s.capture.config.n ≤ s.capture.traceCount then freeze s else s

/-- A frame is presented to the Capture Unit with its disposition (R164, R167, R168, R170 to R173). -/
def present (v : Verdict) (s : State) : State :=
  let u := s.capture
  let a := u.config.a.meets v
  let b := u.config.b.meets v
  let seen := { s with capture := u.see s.quayTime v a b }
  match u.state with
  | .off => seen
  | .frozen => seen
  | .armed => actArmed v a b seen
  | .sequence => if a then countToTrigger v seen else seen
  | .post => actPost (u.records a b) seen
  | .tracing => actTracing seen

end Sys2Proof.Machine
end

