-- ==== Sys2Proof/Machine/Egress.lean ====
section
/-! DEFINITION. What becomes of a received frame that passed the classifier: its classification result (R13), its
disposition and presentation (R16, R36), cell choice (R30), and the offers of a frame on several cells (R37). -/

namespace Sys2Proof.Machine

/-- A frame that passed, with what its classification result is made of (R13). -/
structure Passed where
  port : Port
  frame : Frame
  header : Header
  /-- UP or DOWN. -/
  direction : Direction
  /-- The governing descriptor's index. -/
  governing : Nat
  /-- What the governing descriptor makes of the frame: its kind and kind-specific fields. -/
  treatment : Treatment
  /-- The effective class (R8). -/
  cls : Class
  home : Option Cell
  /-- The radio trailer of an UP frame. -/
  trailer : Option Trailer
  payload : List Byte
deriving DecidableEq, Repr

/-- The record of a frame that passed, when its governing kind has one that the direction calls for (R13). -/
def Passed.record (r : Passed) : Option FrameRecord :=
  match r.treatment, r.direction with
  | .crane _, _ => some (.control (readControl r.payload))
  | .reefer _ _, .up => some (.report (readReport r.payload))
  | .reefer _ _, .down => none
  | .general _, _ => none
  | .absent, _ => none
  | .redirect _, _ => none

/-- The classification result that travels with a frame that passed (R13), with the crane state the supervisor adds to
it, none for a frame that does not reach the supervisor (R52). -/
def Passed.result (r : Passed) (crane : Option CraneState) : Classification :=
  { port := r.port, direction := r.direction, bearer := r.header.bearer, sequence := r.header.sequence
    requested := r.header.requested, cell := r.header.cell, governing := r.governing, treatment := r.treatment
    cls := r.cls, length := 10 + r.header.payloadLength, home := r.home, trailer := r.trailer, record := r.record
    crane := crane }

/-- The presentation of a frame that passed, with the crane state recorded for it (R52, R164). -/
def Passed.verdict (r : Passed) (crane : Option CraneState) (d : Disposition) : Verdict :=
  { port := r.port, direction := some r.direction, identity := some (r.header.bearer, r.header.sequence)
    size := frameSize r.frame, cls := some r.cls, kind := kindOf r.treatment, craneState := crane, disposition := d }

/-- The frame is given a disposition and presented with it (R16). -/
def dispose (r : Passed) (crane : Option CraneState) (d : Disposition) (s : State) : State :=
  present (r.verdict crane d) s

/-- An uplink frame is offered to the yard port queue of its effective class (R36). -/
def forwardUp (r : Passed) (crane : Option CraneState) (s : State) : State :=
  let a := s.offer .y r.cls none (.forwarded (r.result crane)) r.frame
  dispose r crane (dispositionOf a.1) a.2

/-- The sending cell of a downlink frame: the header's cell, or else the home cell, each if it is present and its port
up flag is set (R30). -/
def sendingCell (s : State) (named : Byte) (home : Option Cell) : Option Cell :=
  ((cellNamed named).filter s.cellUp).or (home.filter s.cellUp)

/-- A downlink frame goes out on one cell, or is given DROP_NO_CELL (R30, R36). -/
def forwardDown (r : Passed) (crane : Option CraneState) (origin : Origin) (s : State) : State :=
  match sendingCell s r.header.cell r.home with
  | none =>
    dispose r crane .dropNoCell { s with store := { s.store with noCell := s.store.noCell + 1 } }
  | some c =>
    let a := s.offer (quayPort (s.cell c).quayPort) r.cls (some c) origin r.frame
    dispose r crane (dispositionOf a.1) a.2

/-- A frame is offered once for each cell of a list, in order, to the class 0 queue of the cell's quay port; a cell
that is not present is passed over (R37, R66, R91). The answers are given in order. -/
def offerOnCells (origin : Origin) (f : Frame) : List Cell → State → List Admission × State
  | [], s => ([], s)
  | c :: rest, s =>
    if (s.cell c).present then
      let a := s.offer (quayPort (s.cell c).quayPort) 0 (some c) origin f
      let more := offerOnCells origin f rest a.2
      (a.1 :: more.1, more.2)
    else offerOnCells origin f rest s

/-- The single disposition of a frame offered several times (R37). -/
def dispositionOfAll (answers : List Admission) : Disposition :=
  if answers.contains .admitted then .forwarded
  else if answers.contains (.refused .pool) then .dropPool
  else .dropQueueFull

end Sys2Proof.Machine
end

