-- ==== Sys2Proof/Machine/Path.lean ====
section
/-! DEFINITION. The Crane Path Selector (chapter 4): commits (R80), usable cells (R84), resolution (R85 to R88), the
overlap window (R89) and the copies of a control frame (R91). -/

namespace Sys2Proof.Machine

/-- The index of a crane's path entry for a segment (R79). -/
def pathIndex (l : Link) (g : Segment) : Nat := l.val * 64 + g.val

/-- One table with some indices, from a first one on, taken from another. -/
def copyRange (source target : Table PathEntry) (first : Nat) : Nat → Table PathEntry
  | 0 => target
  | n + 1 => copyRange source (target.set first (source.get first)) (first + 1) n

/-- A commit is applied to a link: its staged table is copied whole into its active table and commit pending is
cleared (R80). -/
def applyCommit (l : Link) (s : State) : State :=
  { s with
    paths := { s.paths with active := copyRange s.paths.staged s.paths.active (l.val * 64) 64 }
  }.setLink l { s.link l with commitPending := false }

/-- A commit pending on a link is applied (R80). -/
def applyPending (l : Link) (s : State) : State := if (s.link l).commitPending then applyCommit l s else s

/-- The active path entry of a crane for a segment. -/
def State.pathEntry (s : State) (l : Link) (g : Segment) : PathEntry := s.paths.active.get (pathIndex l g)

/-- A cell is usable at a segment, or at NONE (R84). -/
def State.usable (s : State) (g : Option Segment) (c : Cell) : Bool :=
  s.cellUp c && (match g with
    | none => true
    | some g => !decide ((s.cover (coverIndex g c)).state = .hole))

/-- The cells of a path entry that are in service, primary first, each once (R64 step 1, R86 step 3). -/
def State.plannedUp (s : State) (e : PathEntry) : List Cell :=
  let p := (e.primary.filter s.cellUp).toList
  p ++ cellsBeyond (e.alternate.filter s.cellUp).toList p

/-- The result of a resolution (R85, R86), and the value it gives the PATH_POOR flag, if any. -/
def State.resolution (s : State) (l : Link) (home : Option Cell) : List Cell × Option Bool :=
  match (s.link l).segment with
  | none =>
    let kept := (s.link l).resolved.filter (s.usable none)
    (if kept.isEmpty then (home.filter (s.usable none)).toList else kept, none)
  | some g =>
    let e := s.pathEntry l g
    match e.primary.filter (s.usable (some g)) with
    | some p => ([p], some false)
    | none =>
      match e.alternate.filter (s.usable (some g)) with
      | some a => ([a], some false)
      | none => (s.plannedUp e, some true)

/-- The link after its resolved set is changed to a result, with the overlap window handled (R88, R89). -/
def CraneLink.changeSet (k : CraneLink) (now : QuayTime) (result : List Cell) : CraneLink :=
  let opens := decide (0 < k.config.overlap) && !k.resolved.isEmpty
  { k with
    previous := if opens then k.resolved else []
    overlapExpiry := if opens then some (later now k.config.overlap) else none
    resolved := result
    counts := { k.counts with pathChanges := bump16 k.counts.pathChanges } }

/-- The link after a resolution: apply-now cleared (R82), PATH_POOR as it gives (R86), and the sets (R87, R88). -/
def CraneLink.resolvedTo (k : CraneLink) (now : QuayTime) (result : List Cell) (poor : Option Bool) : CraneLink :=
  let k := { k with applyNow := false, pathPoor := poor.getD k.pathPoor }
  if result.isEmpty then { k with counts := { k.counts with noPath := bump16 k.counts.noPath } }
  else if sameCells result k.resolved then { k with resolved := result }
  else k.changeSet now result

/-- A link's segment as a notice carries it (R70, R86). -/
def segmentWord (g : Option Segment) : Option (BitVec 16) := g.map fun g => BitVec.ofNat 16 g.val

/-- The copies of a resolved frame are offered on the link's send set, and its disposition is found (R37, R91). -/
def sendCopies (l : Link) (r : Passed) (crane : Option CraneState) (s : State) : State :=
  let a := offerOnCells (.control (r.result crane)) r.frame (s.link l).sendSet s
  if a.1.isEmpty then
    let k := a.2.link l
    dispose r crane .dropNoPath (a.2.setLink l { k with counts := { k.counts with noPath := bump16 k.counts.noPath } })
  else dispose r crane (dispositionOfAll a.1) a.2

/-- An accepted downlink control frame is resolved and sent (R85 to R91). -/
def resolveAndSend (l : Link) (r : Passed) (crane : Option CraneState) (s : State) : State :=
  let k := s.link l
  let found := s.resolution l r.home
  let s := s.setLink l (k.resolvedTo s.quayTime found.1 found.2)
  let s := if found.2 = some true && !k.pathPoor then
      s.notify .pathPoor l.val k.config.pathPoorLevel (segmentWord k.segment)
    else s
  if found.1.isEmpty then dispose r crane .dropNoPath s else sendCopies l r crane s

/-- The link with its overlap window ended (R89). -/
def CraneLink.endWindow (k : CraneLink) : CraneLink := { k with previous := [], overlapExpiry := none }

/-- OVERLAP_EXPIRY (R89): an overlap expiry that is armed and reached ends the window (log entry 2). -/
def execOverlapExpiry (l : Link) (s : State) : Host.Outcome State Fault Refusal :=
  .next (if due s.quayTime (s.link l).overlapExpiry then s.setLink l (s.link l).endWindow else s)

end Sys2Proof.Machine
end

