-- ==== Sys2Proof/Machine/Ports.lean ====
section
/-! DEFINITION. The events of a port: completion of a transmission (R42), link loss (R25) and link gain (R26). -/

namespace Sys2Proof.Machine

/-- A queue without the entries that meet a test, each of which is counted as flushed (R25, R45, R59). -/
def Queue.without (q : Queue) (drop : QueueEntry → Bool) : Queue :=
  { q with
    entries := q.entries.filter fun e => !drop e
    flushed := q.flushed + BitVec.ofNat 32 (q.entries.filter drop).length }

/-- The entries of a queue that meet a test leave it, and their blocks return to the pool (R25, R45, R59). -/
def FrameStore.dropEntries (st : FrameStore) (p : Port) (c : Class) (drop : QueueEntry → Bool) : FrameStore :=
  let q := st.queue p c
  (st.setQueue p c (q.without drop)).giveBack (blocksHeld (q.entries.filter drop))

/-- The entries of a port's four queues that meet a test leave them (R25, R45, R59). -/
def FrameStore.dropAt (st : FrameStore) (p : Port) (drop : QueueEntry → Bool) : FrameStore :=
  allClasses.foldl (fun st c => st.dropEntries p c drop) st

/-- The transmission in progress on a port, if any, is ended before its completion: its blocks return and it is
counted as flushed at the queue it was selected from (R25, R45). -/
def FrameStore.cutOff (st : FrameStore) (p : Port) : FrameStore :=
  match (st.port p).tx with
  | none => st
  | some t =>
    let q := st.queue p t.cls
    ((st.setPort p { st.port p with tx := none }).setQueue p t.cls { q with flushed := q.flushed + 1 }).giveBack
      t.entry.blocks

/-- The frames a link loss on a port discards: those waiting and the one in transmission (R27). -/
def FrameStore.residents (st : FrameStore) (p : Port) : Nat :=
  (allClasses.map fun c => (st.queue p c).entries.length).sum + (st.port p).tx.isSome.toNat

/-- The four queues of a port are emptied (R25). -/
def FrameStore.emptyQueues (st : FrameStore) (p : Port) : FrameStore := st.dropAt p fun _ => true

/-- The round-robin turn of a port is reset (R40). -/
def FrameStore.resetTurn (st : FrameStore) (p : Port) : FrameStore :=
  st.setPort p { st.port p with turn := 3, credit := 0 }

/-- The port up flags of the cells served by a port, after its link state changed (R25 step 5, R26 step 2). -/
def flagCells (cells : Table CellEntry) (p : Port) (up : Bool) : Table CellEntry :=
  cells.map fun c => if quayPort c.quayPort = p then { c with portUp := up && c.present } else c

/-- A port whose link is UP loses it (R25). -/
def loseLink (p : Port) (receiving : Bool) (s : State) : State :=
  let discarded := s.store.residents p
  let down := { s.store.port p with
    up := false
    receiveErrors := if receiving then bump16 (s.store.port p).receiveErrors else (s.store.port p).receiveErrors }
  let st := (((s.store.setPort p down).cutOff p).emptyQueues p).resetTurn p
  let st := st.setPort p { st.port p with linkLosses := bump16 (st.port p).linkLosses }
  { s with store := st
           classifier := { s.classifier with cells := flagCells s.classifier.cells p false }
  }.notify .linkDown (portNumber p) (s.setting 37) (some (BitVec.ofNat 16 (min 65535 discarded)))

/-- LINK_LOSS (R25): the event is a loss on a port whose link is UP; a port without link has none to lose
(log entry 10). A reception it cuts off is counted as a receive error (R24). -/
def execLinkLoss (p : Port) (receiving : Bool) (s : State) : Host.Outcome State Fault Refusal :=
  .next (if (s.store.port p).up then loseLink p receiving s else s)

/-- A port whose link is DOWN gains it (R26). -/
def gainLink (p : Port) (s : State) : State :=
  { s with store := s.store.setPort p { s.store.port p with up := true }
           classifier := { s.classifier with cells := flagCells s.classifier.cells p true }
  }.notify .linkUp (portNumber p) (s.setting 38) none

/-- LINK_GAIN (R26): the event is a gain on a port whose link is DOWN (R24; log entry 10). -/
def execLinkGain (p : Port) (s : State) : Host.Outcome State Fault Refusal :=
  .next (if (s.store.port p).up then s else gainLink p s)

/-- The completion of a transmission on a port: its blocks return, the port counts it, and the scheduler selects again
(R42). -/
def FrameStore.complete (st : FrameStore) (settings : Table Nat) (p : Port) : FrameStore :=
  match (st.port p).tx with
  | none => st
  | some t =>
    let port := st.port p
    ((st.giveBack t.entry.blocks).setPort p { port with
      tx := none
      framesSent := port.framesSent + 1
      bytesSent := port.bytesSent + BitVec.ofNat 32 (frameSize t.entry.frame) }).select settings p

/-- TRANSMISSION_COMPLETION (R42): the transmission in progress on the port completes; without one there is nothing to
complete. The instant is the sender's to say, and the part's own clock says it after the line time (log entry 5). -/
def execTransmissionCompletion (p : Port) (s : State) : Host.Outcome State Fault Refusal :=
  .next { s with store := s.store.complete s.settings p }

end Sys2Proof.Machine
end

