-- ==== Sys2Proof/Machine/Crane.lean ====
section
/-! DEFINITION. The Crane Link Supervisor (chapter 3): frames (R51 to R57, R60, R61), hold (R58, R59, R62), hold orders
(R63 to R66), release (R67 to R69) and the expiries of a link's deadlines. -/

namespace Sys2Proof.Machine

/-! ### Hold orders -/

/-- The target cells of a hold order attempt (R64). -/
def State.holdTargets (s : State) (l : Link) : List Cell :=
  let planned := match (s.link l).segment with
    | none => []
    | some g => s.plannedUp (s.pathEntry l g)
  if planned.isEmpty then (s.link l).resolved.filter s.cellUp else planned

/-- The sequence of a link's next hold order (R65). -/
def CraneLink.holdSequence (k : CraneLink) : Sequence :=
  match k.lastSent with
  | none => 0
  | some q => q + 1

/-- The attempt sent nothing (R63, R66). -/
def CraneLink.defer (k : CraneLink) : CraneLink :=
  { k with counts := { k.counts with holdsDeferred := bump16 k.counts.holdsDeferred } }

/-- The attempt sent at least one copy (R66). -/
def CraneLink.ordered (k : CraneLink) : CraneLink :=
  { k with holdCounter := k.holdCounter + 1, lastSent := some k.holdSequence
           counts := { k.counts with holdsSent := bump16 k.counts.holdsSent } }

/-- A hold order attempt of a link (R63 to R66). -/
def holdAttempt (l : Link) (s : State) : State :=
  let k := s.link l
  let targets := s.holdTargets l
  if targets.isEmpty then s.setLink l k.defer
  else
    let order := holdOrder s.identity s.bearerType s.quayTime k k.holdSequence (k.holdCounter + 1)
    let a := offerOnCells .holdOrder order targets s
    a.2.setLink l (if a.1.contains .admitted then k.ordered else k.defer)

/-! ### Entering HOLD -/

/-- A queue entry is a frame of a bearer received by the part: a copy of a downlink control frame (R59), also one
admitted while the link was IDLE (log entry 15), or a frame queued while another kind of descriptor governed the bearer
number (log entry 25). Hold orders are no received frames. -/
def isFrameOf (bearer : BitVec 12) (e : QueueEntry) : Bool :=
  match e.origin with
  | .control r => decide (r.bearer = bearer)
  | .forwarded r => decide (r.bearer = bearer)
  | .holdOrder => false
  | .notice => false
  | .summary => false
  | .reply => false
  | .restartReply => false

/-- The queued frames of a bearer are withdrawn from the quay ports, so that none begins transmission there (R59). What
waits on a quay port was received on the yard port. Copies of control frames wait in class 0 alone; in the other classes
wait the frames of log entry 25. -/
def FrameStore.withdraw (st : FrameStore) (bearer : BitVec 12) : FrameStore :=
  quayPorts.foldl (fun st p => st.dropAt p (isFrameOf bearer)) st

/-- The link as entry to HOLD leaves its own fields (R58 steps 1 to 4). -/
def CraneLink.held (k : CraneLink) (reason : HoldReason) : CraneLink :=
  { k with state := .hold, reason := reason, downDeadline := none, streak := 0, releaseExpiry := none }

/-- A link enters HOLD (R58). -/
def enterHold (l : Link) (reason : HoldReason) (s : State) : State :=
  let s := s.setLink l ((s.link l).held reason)
  let s := { s with store := s.store.withdraw (s.link l).config.bearer }
  let s := applyPending l s
  let k := (s.link l).endWindow
  let s := s.setLink l { k with counts := { k.counts with holdsEntered := bump16 k.counts.holdsEntered } }
  let s := s.notify (if reason = .managed then .holdManaged else .holdDeadline) l.val k.config.holdLevel
    (segmentWord k.segment)
  let s := holdAttempt l s
  s.setLink l { s.link l with nextHold := some (later s.quayTime k.config.period) }

/-- A link in RELEASING returns to HOLD (R69). -/
def CraneLink.returned (k : CraneLink) : CraneLink := { k with state := .hold, releaseExpiry := none }

/-! ### Expiries -/

/-- The deadline of a direction. -/
def CraneLink.deadline (k : CraneLink) : Direction → Option QuayTime
  | .up => k.upDeadline
  | .down => k.downDeadline

/-- The link with the deadline of a direction replaced; an uplink deadline that expired clears uplink alive. -/
def CraneLink.expired (k : CraneLink) (next : Option QuayTime) : Direction → CraneLink
  | .up => { k with upDeadline := next, upAlive := false }
  | .down => { k with downDeadline := next }

/-- A miss of a link in LIVE or DEGRADED (R55). -/
def missDeadline (l : Link) (dir : Direction) (d : QuayTime) (s : State) : State :=
  let before := s.link l
  let k := { before.expired (some (later d before.config.period)) dir with missed := before.missed + 1, streak := 0 }
  let s := s.setLink l k
  if k.config.threshold ≤ k.missed then enterHold l .deadline s
  else if k.state = .live then
    (s.setLink l { k with state := .degraded }).notify .degraded l.val k.config.degradedLevel (segmentWord k.segment)
  else s

/-- What the expiry of a deadline does, by the link's state (R53, R55, R60). An IDLE link, and the downlink of a held
one, hold no armed deadline in any run; there the expiry unarms it (log entry 19). -/
def expireDeadline (l : Link) (dir : Direction) (d : QuayTime) (s : State) : State :=
  let k := s.link l
  match k.state, dir with
  | .idle, _ => s.setLink l (k.expired none dir)
  | .arming, _ => s.setLink l (k.expired (some (later d k.config.period)) dir)
  | .live, _ => missDeadline l dir d s
  | .degraded, _ => missDeadline l dir d s
  | .hold, .up => s.setLink l (k.expired (some (later d k.config.period)) .up)
  | .hold, .down => s.setLink l (k.expired none .down)
  | .releasing, .up => s.setLink l (k.expired (some (later d k.config.period)) .up).returned
  | .releasing, .down => s.setLink l (k.expired none .down)

/-- DEADLINE_EXPIRY (R55, R53, R60): a deadline that is armed and reached expires (log entry 2). -/
def execDeadlineExpiry (l : Link) (dir : Direction) (s : State) : Host.Outcome State Fault Refusal :=
  .next (match (s.link l).deadline dir with
    | none => s
    | some d => if reached s.quayTime d then expireDeadline l dir d s else s)

/-- RELEASE_EXPIRY (R69): a release expiry that is armed and reached returns its link to HOLD (log entry 2). -/
def execReleaseExpiry (l : Link) (s : State) : Host.Outcome State Fault Refusal :=
  .next (if due s.quayTime (s.link l).releaseExpiry then
      (if (s.link l).state = .releasing then s.setLink l (s.link l).returned
       else s.setLink l { s.link l with releaseExpiry := none })
    else s)

/-- HOLD_ORDER_TIME_EXPIRY (R63): a next hold order time that is armed and reached is re-armed at its expiry + P, and
an attempt is made (log entry 2). -/
def execHoldOrderTimeExpiry (l : Link) (s : State) : Host.Outcome State Fault Refusal :=
  .next (match (s.link l).nextHold with
    | none => s
    | some d =>
      if reached s.quayTime d then
        holdAttempt l (s.setLink l { s.link l with nextHold := some (later d (s.link l).config.period) })
      else s)

/-! ### Frames -/

/-- The quay time one cycle and the jitter allowance ahead (R53, R54). -/
def CraneLink.nextDue (k : CraneLink) (now : QuayTime) : QuayTime := later now (k.config.period + k.config.jitter)

/-- The link with the deadline of a direction reloaded by an accepted frame (R53, R54, R60). -/
def CraneLink.reloaded (k : CraneLink) (now : QuayTime) : Direction → CraneLink
  | .up => { k with upDeadline := some (k.nextDue now), upAlive := true }
  | .down => { k with downDeadline := some (k.nextDue now) }

/-- What an accepted frame does to its deadline and to the link's state (R53, R54, R60). A held link's downlink
deadline stays unarmed (R61). -/
def CraneLink.accepted (k : CraneLink) (now : QuayTime) (dir : Direction) : CraneLink :=
  match k.state with
  | .idle => k
  | .arming =>
    let k := k.reloaded now dir
    if k.upSeq.isSome && k.downSeq.isSome then { k with state := .live, missed := 0, streak := 0 } else k
  | .live => k.reloaded now dir
  | .degraded =>
    let k := { k.reloaded now dir with streak := k.streak + 1 }
    if k.config.recovery ≤ k.streak then { k with state := .live, missed := 0, streak := 0 } else k
  | .hold => (match dir with | .up => k.reloaded now .up | .down => k)
  | .releasing => (match dir with | .up => k.reloaded now .up | .down => k)

/-- The last accepted sequence of a direction. -/
def CraneLink.lastSeq (k : CraneLink) : Direction → Option Sequence
  | .up => k.upSeq
  | .down => k.downSeq

/-- The outcome of screening (R52). -/
inductive Screened where
  | accepted (gap : Nat)
  | duplicate
  | late
deriving DecidableEq, Repr

/-- The screening of a sequence against the last accepted one (R52). -/
def screen (last : Option Sequence) (q : Sequence) : Screened :=
  match last with
  | none => .accepted 0
  | some l =>
    if ahead q l = 0 then .duplicate
    else if 32768 ≤ ahead q l then .late
    else .accepted (ahead q l - 1)

/-- The link with an accepted sequence taken and its gap counted (R52). -/
def CraneLink.tookSeq (k : CraneLink) (dir : Direction) (q : Sequence) (gap : Nat) : CraneLink :=
  let k := { k with counts := { k.counts with gapFrames := saturate16 k.counts.gapFrames gap } }
  match dir with
  | .up => { k with upSeq := some q }
  | .down => { k with downSeq := some q }

/-- The segment the Quay Geometry gives a bay; bay 255 gives NONE (R57 step 2). -/
def State.segmentOf (s : State) (bay : Byte) : Option Segment :=
  if bay = 255 then none else s.paths.geometry.get bay.toNat

/-- An accepted uplink control frame (R57, R60), its sequence taken already. -/
def acceptUp (l : Link) (r : Passed) (before : CraneState) (s : State) : State :=
  let record := readControl r.payload
  let g := s.segmentOf record.bay
  let s := s.setLink l { (s.link l).accepted s.quayTime .up with segment := g, boom := record.boom }
  let s := applyPending l s
  let s := offerTrailer true g r.header.cell r.trailer s
  forwardUp r (some before) s

/-- A token read and not acted on (R61). -/
def CraneLink.ignoreToken (k : CraneLink) : CraneLink :=
  { k with counts := { k.counts with tokensIgnored := bump16 k.counts.tokensIgnored } }

/-- A link opens or restarts its release window (R67). -/
def CraneLink.openRelease (k : CraneLink) (now : QuayTime) : CraneLink :=
  { k with state := .releasing, releaseExpiry := some (later now k.config.window) }

/-- A link is released to LIVE (R68 steps 1 to 5). -/
def CraneLink.release (k : CraneLink) (now : QuayTime) : CraneLink :=
  { k with state := .live, reason := .none, missed := 0, streak := 0, upDeadline := some (k.nextDue now)
           downDeadline := some (k.nextDue now), releaseExpiry := none, nextHold := none }

/-- A release token read on a held link (R61, R67, R68). -/
def readToken (l : Link) (token : BitVec 16) (s : State) : State :=
  let k := s.link l
  if k.state = .releasing then
    if token = k.config.tokenA then s.setLink l (k.openRelease s.quayTime)
    else if token = k.config.tokenB then
      (s.setLink l (k.release s.quayTime)).notify .released l.val k.config.releasedLevel (segmentWord k.segment)
    else s.setLink l k.ignoreToken
  else
    if token = k.config.tokenA && k.upAlive then s.setLink l (k.openRelease s.quayTime)
    else s.setLink l k.ignoreToken

/-- An accepted downlink control frame of a held link: its token is read and it is given DROP_HELD (R61). -/
def acceptHeld (l : Link) (r : Passed) (before : CraneState) (s : State) : State :=
  let s := match (readControl r.payload).token with
    | none => s
    | some t => readToken l t s
  dispose r (some before) .dropHeld s

/-- An accepted downlink control frame of a working link (R56). -/
def acceptDown (l : Link) (r : Passed) (before : CraneState) (s : State) : State :=
  let s := s.setLink l { (s.link l).accepted s.quayTime .down with lastSent := some r.header.sequence }
  resolveAndSend l r (some before) s

/-- A supervised frame: it is screened, and if accepted handled by its direction and the link's state (R52). -/
def supervise (l : Link) (r : Passed) (s : State) : State :=
  let k := s.link l
  match screen (k.lastSeq r.direction) r.header.sequence with
  | .duplicate =>
    dispose r (some k.state) .dropDuplicate
      (s.setLink l { k with counts := { k.counts with duplicates := bump16 k.counts.duplicates } })
  | .late =>
    dispose r (some k.state) .dropLate (s.setLink l { k with counts := { k.counts with late := bump16 k.counts.late } })
  | .accepted gap =>
    let s := s.setLink l (k.tookSeq r.direction r.header.sequence gap)
    match r.direction with
    | .up => acceptUp l r k.state s
    | .down => if k.state = .hold ∨ k.state = .releasing then acceptHeld l r k.state s else acceptDown l r k.state s

/-- A frame governed by a CRANE descriptor reaches the supervisor (3.3, R51). -/
def takeCraneFrame (l : Link) (r : Passed) (s : State) : State :=
  let k := s.link l
  if k.state = .idle then
    match r.direction with
    | .up => forwardUp r (some .idle) s
    | .down => forwardDown r (some .idle) (.control (r.result (some .idle))) s
  else if !decide (r.header.bearer = k.config.bearer) then
    dispose r (some k.state) .dropHeld
      (s.setLink l { k with counts := { k.counts with strayFrames := bump16 k.counts.strayFrames } })
  else supervise l r s

end Sys2Proof.Machine
end

