-- ==== Sys2Proof/Machine/Reefer.lean ====
section
/-! DEFINITION. The Reefer Registry (chapter 6): the taking of a report (R115 to R128, R132) and the expiries of a
slot's deadlines (R129, R130). -/

namespace Sys2Proof.Machine

/-- A reefer slot. -/
def State.slot (s : State) (i : Slot) : ReeferSlot := s.registry.slots.get i.val

/-- The profile a slot names. -/
def State.profileOf (s : State) (i : Slot) : Profile := s.registry.profiles.get (s.slot i).config.profile.val

/-- The state with a slot's record replaced. -/
def State.setRecord (s : State) (i : Slot) (r : ReeferRecord) : State :=
  { s with registry := { s.registry with slots := s.registry.slots.set i.val { s.slot i with record := r } } }

/-- The interval charged at a report, in whole seconds, at most 600 (R119). -/
def chargedSeconds (now last : QuayTime) : Nat := min 600 ((now - last).toNat / 1000)

/-- The excursion accumulator after step 1 of an accepted report (R119). -/
def accumulated (p : Profile) (now : QuayTime) (previous : ReeferRecord) : Nat :=
  match previous.confirmed, previous.setpoint with
  | some c, some sp =>
    if (previous.freshness = .fresh ∨ previous.freshness = .stale) ∧ (p.band : Int) < c - sp then
      min 4294967295 (previous.excursion + (c - sp - (p.band : Int)).toNat * chargedSeconds now previous.lastTime)
    else previous.excursion
  | _, _ => previous.excursion

/-- A temperature limited to −500 to +500 (R121). -/
def limitTemp (t : Int) : Int := max (-500) (min 500 t)

/-- A temperature of a report was limited (R121). -/
def wasLimited : Option Int → Bool
  | none => false
  | some t => !decide (limitTemp t = t)

/-- The power state a code is read as: OFF for any code other than ON, OFF and DEFROST (R121). -/
def readPower (code : Byte) : Power := if code = 1 then .on else if code = 3 then .defrost else .off

/-- The range flag an accepted report leaves (R121). -/
def rangeFlagOf (rep : Report) : Bool :=
  wasLimited rep.supply || wasLimited rep.returnTemp || wasLimited rep.setpoint ||
  !within 1 3 rep.powerCode.toNat || decide (4 < rep.alarmCount) || rep.alarms.contains 0

/-- Two temperatures differ by at most a step. -/
def near (a b : Int) (step : Nat) : Bool := decide ((a - b).natAbs ≤ step)

/-- The spike filter: confirmed supply, candidate and candidate count after a limited reading (R122). -/
def spikeFilter (step : Nat) (reading : Option Int) (confirmed candidate : Option Int) (count : Nat) :
    Option Int × Option Int × Nat :=
  match reading with
  | none => (confirmed, candidate, count)
  | some r =>
    match confirmed with
    | none => (some r, candidate, 0)
    | some c =>
      if near r c step then (some r, candidate, 0)
      else if count = 0 then (confirmed, some r, 1)
      else
        match candidate with
        | some k =>
          if near r k step then (if count + 1 < 3 then (confirmed, candidate, count + 1) else (some r, candidate, 0))
          else (confirmed, some r, 1)
        | none => (confirmed, some r, 1)

/-- The record as steps 1 to 4 of an accepted report leave it (R119, R121 to R123). -/
def readInto (p : Profile) (now : QuayTime) (rep : Report) (r : ReeferRecord) : ReeferRecord :=
  let filtered := spikeFilter p.spikeStep (rep.supply.map limitTemp) r.confirmed r.candidate r.candidateCount
  { r with
    excursion := accumulated p now r
    rangeFlag := rangeFlagOf rep
    confirmed := filtered.1
    candidate := filtered.2.1
    candidateCount := filtered.2.2
    returnTemp := (rep.returnTemp.map limitTemp).or r.returnTemp
    setpoint := (rep.setpoint.map limitTemp).or r.setpoint
    power := some (readPower rep.powerCode)
    alarms := rep.alarms.filter fun a => !decide (a = 0) }

/-- The record with its four checks judged on its own values (step 5; R124 to R126). -/
def judgeChecks (p : Profile) (r : ReeferRecord) : ReeferRecord :=
  { r with
    high := highCheck p r.power r.confirmed r.setpoint r.high
    low := lowCheck p r.confirmed r.setpoint r.low
    powerCheck := decide (r.power = some .off)
    alarmCheck := !r.alarms.isEmpty }

/-- The record made FRESH, with its timers rearmed by the profile (step 6; R128). -/
def refresh (p : Profile) (now : QuayTime) (r : ReeferRecord) : ReeferRecord :=
  { r with
    freshness := .fresh, lastTime := now
    stale := some (later now (p.staleTime * 1000))
    lost := some (later now (p.lostTime * 1000)) }

/-- The record after an accepted report, its changed flag aside (R118). -/
def acceptedRecord (p : Profile) (now : QuayTime) (rep : Report) (r : ReeferRecord) : ReeferRecord :=
  { refresh p now (judgeChecks p (readInto p now rep r)) with lastCounter := some rep.counter }

/-- The confirmed supply has moved by the report delta since the last summary, or one of the two is unset (R132). -/
def supplyMoved (delta : Nat) (confirmed summarised : Option Int) : Bool :=
  match confirmed, summarised with
  | some c, some q => decide (delta ≤ (c - q).natAbs)
  | none, none => false
  | _, _ => true

/-- The record differs from the previous one in a way that makes its slot changed (R132). -/
def differs (p : Profile) (previous r : ReeferRecord) : Bool :=
  !decide (r.high = previous.high) || !decide (r.low = previous.low) || !decide (r.powerCheck = previous.powerCheck) ||
  !decide (r.alarmCheck = previous.alarmCheck) || !decide (r.freshness = previous.freshness) ||
  !decide (r.power = previous.power) || !decide (r.alarms = previous.alarms) ||
  supplyMoved p.reportDelta r.confirmed r.summarised

/-- A slot is found changed: its flag is set and it joins the tail of the change list, unless it is set already
(R132, R139). -/
def markChanged (i : Slot) (s : State) : State :=
  if (s.slot i).record.changed then s
  else
    let s := s.setRecord i { (s.slot i).record with changed := true }
    { s with registry := { s.registry with changeList := s.registry.changeList ++ [i] } }

/-- The data word of a slot's notices: the confirmed supply, absent when unset (R127). -/
def supplyWord (r : ReeferRecord) : Option (BitVec 16) := r.confirmed.map tempWord

/-- The notice of one check, for the edge it made (R127). -/
def checkNotice (i : Slot) (edges : EdgeSelect) (level : Nat) (enter leave : Event) (before after : Bool)
    (data : Option (BitVec 16)) (s : State) : State :=
  if !before && after && edges.enters then s.notify enter i.val level data
  else if before && !after && edges.leaves then s.notify leave i.val level data
  else s

/-- The notices of an accepted report: HIGH, LOW, POWER, ALARM (R127), then STALE_LEAVE (R128). -/
def reportNotices (i : Slot) (p : Profile) (before after : ReeferRecord) (s : State) : State :=
  let data := supplyWord after
  let s := checkNotice i p.highEdges p.highLevel .highEnter .highLeave before.high after.high data s
  let s := checkNotice i p.lowEdges p.lowLevel .lowEnter .lowLeave before.low after.low data s
  let s := checkNotice i p.powerEdges p.powerLevel .powerEnter .powerLeave before.powerCheck after.powerCheck data s
  let s := checkNotice i p.alarmEdges p.alarmLevel .alarmEnter .alarmLeave before.alarmCheck after.alarmCheck data s
  if decide (before.freshness = .stale ∨ before.freshness = .lost) && p.staleEdges.leaves then
    s.notify .staleLeave i.val p.staleLevel data
  else s

/-- An accepted report is applied to its slot (R118). -/
def acceptReport (i : Slot) (rep : Report) (s : State) : State :=
  let p := s.profileOf i
  let before := (s.slot i).record
  let after := acceptedRecord p s.quayTime rep before
  let s := s.setRecord i after
  let s := { s with registry := { s.registry with accepted := s.registry.accepted + 1 } }
  let s := if differs p before after then markChanged i s else s
  reportNotices i p before after s

/-- A report with another mark is refused as a mismatch (R116). -/
def mismatchReport (i : Slot) (rep : Report) (s : State) : State :=
  let r := (s.slot i).record
  let s := s.setRecord i { r with mismatches := bump16 r.mismatches }
  { s with registry := { s.registry with mismatched := s.registry.mismatched + 1 } }.notify .mismatch i.val
    (s.setting 47) (some (rep.counter.setWidth 16))

/-- A report that repeats the last counter is refused (R117). -/
def repeatReport (i : Slot) (s : State) : State :=
  let r := (s.slot i).record
  let s := s.setRecord i { r with duplicates := bump16 r.duplicates }
  { s with registry := { s.registry with repeated := s.registry.repeated + 1 } }

/-- A report is taken at the slot it names (R115). -/
def takeReport (i : Slot) (rep : Report) (s : State) : State :=
  let s := { s with registry := { s.registry with taken := s.registry.taken + 1 } }
  if !(s.slot i).config.registered then
    { s with registry := { s.registry with unregistered := s.registry.unregistered + 1 } }
  else if !decide (rep.mark = (s.slot i).config.mark) then mismatchReport i rep s
  else if (s.slot i).record.lastCounter = some rep.counter then repeatReport i s
  else acceptReport i rep s

/-- STALE_DEADLINE_EXPIRY (R129): a stale deadline that is armed and reached expires (log entry 2). -/
def execStaleDeadlineExpiry (i : Slot) (s : State) : Host.Outcome State Fault Refusal :=
  .next (
    let r := (s.slot i).record
    let p := s.profileOf i
    if due s.quayTime r.stale then
      let s := markChanged i (s.setRecord i { r with freshness := .stale, stale := none })
      if p.staleEdges.enters then s.notify .staleEnter i.val p.staleLevel (supplyWord r) else s
    else s)

/-- LOST_DEADLINE_EXPIRY (R130): a lost deadline that is armed and reached expires (log entry 2). -/
def execLostDeadlineExpiry (i : Slot) (s : State) : Host.Outcome State Fault Refusal :=
  .next (
    let r := (s.slot i).record
    let p := s.profileOf i
    if due s.quayTime r.lost then
      let s := markChanged i (s.setRecord i
        { r with freshness := .lost, lost := none, confirmed := none, candidateCount := 0 })
      s.notify .lost i.val p.staleLevel none
    else s)

end Sys2Proof.Machine
end

