-- ==== Sys2Proof/Machine/Classifier.lean ====
section
/-! DEFINITION. The Ingress Classifier (chapter 1) and the arrival of a frame, up to its disposition (FRAME_ARRIVAL):
sorting (R1), size, header and length checks (R3, R4), the descriptor (R5, R6), the record check (R7), the effective
class (R8), the policer (R9 to R11), handing on (R14, R15), absorption (R148) and the judgement of requests (R181). -/

namespace Sys2Proof.Machine

/-! ### Counters of a port (R17) -/

/-- The classifier's counters of a port. -/
def State.arrivals (s : State) (p : Port) : ArrivalCounts := s.classifier.counts.get (portNumber p)

/-- The state with the classifier's counters of a port replaced. -/
def State.setArrivals (s : State) (p : Port) (c : ArrivalCounts) : State :=
  { s with classifier := { s.classifier with counts := s.classifier.counts.set (portNumber p) c } }

/-- The frames received counter rises (R1). -/
def countReceived (p : Port) (s : State) : State :=
  s.setArrivals p { s.arrivals p with framesReceived := (s.arrivals p).framesReceived + 1 }

/-- The foreign counter rises (R1). -/
def countForeign (p : Port) (s : State) : State :=
  s.setArrivals p { s.arrivals p with foreign := bump16 (s.arrivals p).foreign }

/-- The malformed counter rises (R1, R3, R4, R7). -/
def countMalformed (p : Port) (s : State) : State :=
  s.setArrivals p { s.arrivals p with malformed := bump16 (s.arrivals p).malformed }

/-! ### Frames the classifier drops -/

/-- The direction, bearer number and sequence of a bearer frame are read when its data field holds a bearer header
(R166). -/
def headerSeen (f : Frame) : Option Header := if f.data.length < 10 then none else some (readHeader f.data)

/-- The presentation of a frame the classifier drops (R13, R166). -/
def dropVerdict (p : Port) (f : Frame) (h : Option Header) (kind : CaptureKind) (cls : Option Class) (d : Disposition) :
    Verdict :=
  { port := p, direction := h.bind Header.direction, identity := h.map fun h => (h.bearer, h.sequence)
    size := frameSize f, cls := cls, kind := kind, craneState := none, disposition := d }

/-- A foreign frame (R1). -/
def dropForeign (p : Port) (f : Frame) (s : State) : State :=
  present (dropVerdict p f none .none none .dropMalformed) (countForeign p s)

/-- A frame given DROP_MALFORMED for a cause other than being foreign. -/
def dropMalformed (p : Port) (f : Frame) (h : Option Header) (kind : CaptureKind) (s : State) : State :=
  present (dropVerdict p f h kind none .dropMalformed) (countMalformed p s)

/-! ### The Bearer Table -/

/-- A descriptor of the Bearer Table. -/
def State.bearer (s : State) (i : Nat) : Descriptor := s.classifier.bearers.get i

/-- The state with a descriptor replaced. -/
def State.setBearer (s : State) (i : Nat) (d : Descriptor) : State :=
  { s with classifier := { s.classifier with bearers := s.classifier.bearers.set i d } }

/-- A descriptor's touched flag is set (R5, R6). -/
def touch (i : Nat) (s : State) : State := s.setBearer i { s.bearer i with touched := true }

/-- The effective class before the policer (R8). -/
def effectiveClass (d : Descriptor) (requested : Class) : Class :=
  match d.treatment with
  | .crane _ => 0
  | .absent => max requested d.cls
  | .general _ => max requested d.cls
  | .reefer _ _ => max requested d.cls
  | .redirect _ => max requested d.cls

/-- What the policer makes of a frame (R10). -/
inductive Policed where
  | conforms
  | demoted
  | dropped
deriving DecidableEq, Repr

/-- The policer's outcome for a frame of some length at a governing descriptor (R9, R10). -/
def Descriptor.police (d : Descriptor) (now : QuayTime) (length : Nat) : Policed :=
  if d.rate = 0 then .conforms
  else if length ≤ d.refilled now then .conforms
  else
    match d.treatment with
    | .crane _ => .dropped
    | .absent => if d.demote then .demoted else .dropped
    | .general _ => if d.demote then .demoted else .dropped
    | .reefer _ _ => if d.demote then .demoted else .dropped
    | .redirect _ => if d.demote then .demoted else .dropped

/-- The descriptor's bucket after a frame (R9, R10). -/
def Descriptor.drawn (d : Descriptor) (now : QuayTime) (length : Nat) : Descriptor :=
  if d.rate = 0 then d
  else { d with
    level := if length ≤ d.refilled now then d.refilled now - length else d.refilled now
    stamp := now }

/-- The descriptor's counters after a frame (R11). -/
def Descriptor.counted (d : Descriptor) (outcome : Policed) (length : Nat) : Descriptor :=
  { d with
    framesPassed := if outcome = .dropped then d.framesPassed else d.framesPassed + 1
    bytesPassed := if outcome = .dropped then d.bytesPassed else d.bytesPassed + BitVec.ofNat 32 length
    framesPoliced := if outcome = .conforms then d.framesPoliced else d.framesPoliced + 1 }

/-- The descriptor after a frame of some length (R9 to R11). -/
def Descriptor.afterFrame (d : Descriptor) (now : QuayTime) (length : Nat) : Descriptor :=
  (d.drawn now length).counted (d.police now length) length

/-- The CONTROL_EXCESS counter of the crane link a descriptor names rises (R10). -/
def countExcess (t : Treatment) (s : State) : State :=
  match t with
  | .crane l =>
    let k := s.link l
    s.setLink l { k with counts := { k.counts with controlExcess := bump16 k.counts.controlExcess } }
  | .absent => s
  | .general _ => s
  | .reefer _ _ => s
  | .redirect _ => s

/-! ### Handing on (R14, R15) -/

/-- The segment of a REEFER offer: the slot's, none if it is unregistered (R94). -/
def reeferSegment (i : Slot) (s : State) : Option Segment :=
  if (s.slot i).config.registered then (s.slot i).config.segment else none

/-- An uplink report frame: its trailer is offered, its report taken, and it is absorbed or forwarded (R14, R148). -/
def takeReeferUp (i : Slot) (absorb : Bool) (r : Passed) (s : State) : State :=
  let s := offerTrailer false (reeferSegment i s) r.header.cell r.trailer s
  let s := takeReport i (readReport r.payload) s
  if absorb then
    dispose r none .absorbed { s with registry := { s.registry with absorbed := s.registry.absorbed + 1 } }
  else forwardUp r none s

/-- A frame that passed is handed on by its governing kind and direction (R14, R15). The kinds ABSENT and REDIRECT
govern no frame. -/
def handOn (r : Passed) (s : State) : State :=
  match r.treatment, r.direction with
  | .general g, .up => forwardUp r none (offerTrailer false g r.header.cell r.trailer s)
  | .general _, .down => forwardDown r none (.forwarded (r.result none)) s
  | .reefer i absorb, .up => takeReeferUp i absorb r s
  | .reefer _ _, .down => forwardDown r none (.forwarded (r.result none)) s
  | .crane l, _ => takeCraneFrame l r s
  | .absent, _ => s
  | .redirect _, _ => s

/-! ### The stages -/

/-- The payload does not hold the record of the governing kind (R7). -/
def failsRecordCheck (t : Treatment) (dir : Direction) (payload : List Byte) : Bool :=
  match t, dir with
  | .crane _, _ => decide (payload.length < controlSize payload)
  | .reefer _ _, .up => decide (payload.length < reportSize payload)
  | .reefer _ _, .down => false
  | .general _, _ => false
  | .absent, _ => false
  | .redirect _, _ => false

/-- A frame that passed, under a governing descriptor of some index (R13). -/
def passedFrame (p : Port) (f : Frame) (h : Header) (dir : Direction) (i : Nat) (d : Descriptor) (cls : Class) : Passed :=
  { port := p, frame := f, header := h, direction := dir, governing := i, treatment := d.treatment, cls := cls
    home := d.homeCell
    trailer := match dir with
      | .up => readTrailer f.data h
      | .down => none
    payload := payloadOf f.data h }

/-- A frame whose governing descriptor is known: the record check, the effective class, the policer and the handing on
(R7 to R15). -/
def govern (p : Port) (f : Frame) (h : Header) (dir : Direction) (i : Nat) (s : State) : State :=
  let d := s.bearer i
  let length := 10 + h.payloadLength
  if failsRecordCheck d.treatment dir (payloadOf f.data h) then dropMalformed p f (some h) (kindOf d.treatment) s
  else
    let cls := effectiveClass d h.requested
    let s' := s.setBearer i (d.afterFrame s.quayTime length)
    match d.police s.quayTime length with
    | .conforms => handOn (passedFrame p f h dir i d cls) s'
    | .demoted => handOn (passedFrame p f h dir i d 3) s'
    | .dropped =>
      present (dropVerdict p f (some h) (kindOf d.treatment) (some cls) .dropPoliced) (countExcess d.treatment s')

/-- A frame whose named descriptor is a REDIRECT (R6). -/
def redirect (p : Port) (f : Frame) (h : Header) (dir : Direction) (target : BitVec 12) (s : State) : State :=
  match (s.bearer target.toNat).treatment with
  | .general _ => govern p f h dir target.toNat (touch target.toNat s)
  | .reefer _ _ => govern p f h dir target.toNat (touch target.toNat s)
  | .absent => present (dropVerdict p f (some h) .redirect none .dropRedirectFault) s
  | .redirect _ => present (dropVerdict p f (some h) .redirect none .dropRedirectFault) s
  | .crane _ => present (dropVerdict p f (some h) .redirect none .dropRedirectFault) s

/-- The descriptor of a well-formed bearer frame is resolved (R5). -/
def resolveDescriptor (p : Port) (f : Frame) (h : Header) (dir : Direction) (s : State) : State :=
  let i := h.bearer.toNat
  if i = 0 then present (dropVerdict p f (some h) .none none .dropNull) s
  else
    let s := touch i s
    match (s.bearer i).treatment with
    | .absent => present (dropVerdict p f (some h) .absent none .dropAbsent) s
    | .redirect target => redirect p f h dir target s
    | .general _ => govern p f h dir i s
    | .crane _ => govern p f h dir i s
    | .reefer _ _ => govern p f h dir i s

/-- A bearer frame: its size, header and length are checked, then its descriptor is resolved (R3, R4). -/
def takeBearerFrame (p : Port) (f : Frame) (s : State) : State :=
  if failsHeaderTests p f || failsLengthTest f then dropMalformed p f (headerSeen f) .none s
  else
    let h := readHeader f.data
    match h.direction with
    | none => dropMalformed p f (headerSeen f) .none s
    | some dir => resolveDescriptor p f h dir s

/-! ### Management frames -/

/-- The source address may send requests: it is on the manager list, or the list is empty (R181 test 1, R182). -/
def State.sourceAllowed (s : State) (src : Address) : Bool :=
  let listed := [0, 1, 2, 3].map s.endpoint.managers.get
  listed.all (fun a => decide (a = 0)) || listed.any fun a => !decide (a = 0) && decide (a = src)

/-- A management frame is judged on source, structure and room, and joins the request list or is counted (R181). -/
def judgeRequest (f : Frame) (s : State) : State :=
  let e := s.endpoint
  if !s.sourceAllowed f.src then { s with endpoint := { e with rejected := bump16 e.rejected } }
  else
    match readRequest f with
    | none => { s with endpoint := { e with malformed := bump16 e.malformed } }
    | some q =>
      if 4 ≤ e.requests.length then { s with endpoint := { e with overrun := bump16 e.overrun } }
      else { s with endpoint := { e with requests := e.requests ++ [q] } }

/-- A frame with the management EtherType (R1). -/
def takeManagementFrame (p : Port) (f : Frame) (s : State) : State :=
  if p = .y then
    if f.dst = s.identity.station then
      judgeRequest f (present (dropVerdict p f none .none none .management) s)
    else dropForeign p f s
  else dropMalformed p f none .none s

/-- A frame delivered to the classifier is counted and sorted by its EtherType (R1). -/
def classify (p : Port) (f : Frame) (s : State) : State :=
  let s := countReceived p s
  if f.etherType = s.bearerType then takeBearerFrame p f s
  else if f.etherType = s.identity.managementEtherType then takeManagementFrame p f s
  else dropForeign p f s

/-- A frame discarded by its port is counted there (R24). -/
def countReceiveError (p : Port) (s : State) : State :=
  let port := s.store.port p
  { s with store := s.store.setPort p { port with receiveErrors := bump16 port.receiveErrors } }

/-- FRAME_ARRIVAL (R1, R24): a port without link receives nothing; a frame with a wrong check sequence is discarded
and counted; any other frame is classified and handed on until its disposition is given. -/
def execFrameArrival (p : Port) (f : Frame) (checkRight : Bool) (s : State) : Host.Outcome State Fault Refusal :=
  .next (if (s.store.port p).up then (if checkRight then classify p f s else countReceiveError p s) else s)

end Sys2Proof.Machine
end

