-- ==== Sys2Proof/Machine/Orders.lean ====
section
/-! DEFINITION. The management commands that order something: Commit Paths (R81, R82), Crane Hold (R62), Statistics
Clear (R189), Capture Arm (R174), Capture Stop and Capture Clear Hits (R175). -/

namespace Sys2Proof.Machine

/-! ### Masks of links -/

/-- A link's bit is set in a crane mask (R192). -/
def inMask (mask : BitVec 16) (l : Link) : Bool := mask.getLsbD l.val

/-- The links of a crane mask, in order. -/
def maskLinks (mask : BitVec 16) : List Link := allLinks.filter (inMask mask)

/-- The result value that holds the mask of the links that meet a test (R62, R81, R197). -/
def maskOf (p : Link → Bool) : BitVec 32 :=
  BitVec.ofNat 32 ((allLinks.map fun l => if p l then 2 ^ l.val else 0).sum)

/-- The judgement of a command with a crane mask: 0 is BAD_VALUE; otherwise the command acts on each link of the mask
in order, and carries a mask of the links found after it (R62, R81). -/
def orderLinks (mask : BitVec 16) (act : Link → State → State) (found : State → Link → Bool) (s : State) :
    Ruling × State :=
  if mask = 0 then (ruling .badValue, s)
  else
    let t := (maskLinks mask).foldl (fun s l => act l s) s
    (okValue (maskOf (found t)), t)

/-! ### Commit Paths (R81, R82) -/

/-- What a Commit Paths does to a link of its mask (R81, R82). -/
def commitLink (now : Bool) (l : Link) (s : State) : State :=
  if now then
    let t := applyCommit l s
    if (s.link l).state = .idle then t else t.setLink l { t.link l with applyNow := true }
  else if (s.link l).state = .live ∨ (s.link l).state = .degraded then
    s.setLink l { s.link l with commitPending := true }
  else applyCommit l s

/-- COMMIT_PATHS (R81): the result value is the mask of the links with commit pending when it completes. -/
def execCommitPaths (mask : BitVec 16) (now : Bool) (s : State) : Host.Outcome State Fault Refusal :=
  .next (runCommand 5 0 (orderLinks mask (commitLink now) fun t l => (t.link l).commitPending) s)

/-! ### Crane Hold (R62) -/

/-- What a Crane Hold does to a link of its mask (R62, R69). -/
def holdLink (l : Link) (s : State) : State :=
  match (s.link l).state with
  | .idle => s
  | .hold => s
  | .releasing => s.setLink l { (s.link l).returned with reason := .managed }
  | .arming => enterHold l .managed s
  | .live => enterHold l .managed s
  | .degraded => enterHold l .managed s

/-- CRANE_HOLD (R62): the result value is the mask of the links in HOLD when it completes. -/
def execCraneHold (mask : BitVec 16) (s : State) : Host.Outcome State Fault Refusal :=
  .next (runCommand 6 0 (orderLinks mask holdLink fun t l => decide ((t.link l).state = .hold)) s)

/-! ### Statistics Clear (R189) -/

/-- A descriptor's counters at 0 (R11, R17). -/
def Descriptor.cleared (d : Descriptor) : Descriptor := { d with framesPassed := 0, bytesPassed := 0, framesPoliced := 0 }

/-- A port's counters at 0 (R43). -/
def PortState.cleared (p : PortState) : PortState :=
  { p with receiveErrors := 0, linkLosses := 0, framesSent := 0, bytesSent := 0 }

/-- A queue's counters at 0 (R43). -/
def Queue.cleared (q : Queue) : Queue :=
  { q with admitted := 0, fullRefusals := 0, poolRefusals := 0, linkDownRefusals := 0, flushed := 0 }

/-- The counters of the Frame Store at 0, and the least free mark at the free count (R33, R43). -/
def FrameStore.cleared (st : FrameStore) : FrameStore :=
  { st with ports := st.ports.map PortState.cleared, queues := st.queues.map Queue.cleared, least := st.free
            noCell := 0 }

/-- The counters of the Coverage Map at 0 (R109). -/
def CoverageMap.cleared (m : CoverageMap) : CoverageMap := { CoverageMap.cold with entries := m.entries }

/-- A slot's mismatch and duplicate counts at 0 (R136). -/
def ReeferSlot.cleared (r : ReeferSlot) : ReeferSlot :=
  { r with record := { r.record with mismatches := 0, duplicates := 0 } }

/-- The counters of the Reefer Registry and of absorption at 0 (R136, R149). -/
def Registry.cleared (r : Registry) : Registry :=
  { r with slots := r.slots.map ReeferSlot.cleared, taken := 0, unregistered := 0, mismatched := 0, repeated := 0
           accepted := 0, absorbed := 0 }

/-- The counters of the Summary Builder at 0 (R149). -/
def SummaryBuilder.cleared (b : SummaryBuilder) : SummaryBuilder :=
  { SummaryBuilder.cold with timer := b.timer, passing := b.passing, counter := b.counter }

/-- The counters of the Notice Unit at 0 (R161). -/
def NoticeUnit.cleared (u : NoticeUnit) : NoticeUnit :=
  { NoticeUnit.cold with queue := u.queue, pacing := u.pacing, counter := u.counter }

/-- The counters of the Capture Unit at 0 (R178). -/
def CaptureUnit.cleared (u : CaptureUnit) : CaptureUnit :=
  { u with matchesA := 0, matchesB := 0, recorded := 0, triggers := 0 }

/-- The counters of the Management Endpoint at 0 (R191). -/
def Endpoint.cleared (e : Endpoint) : Endpoint :=
  { e with executed := 0, rejected := 0, malformed := 0, overrun := 0, repliesLost := 0 }

/-- Statistics Clear at every block (R189). -/
def clearStatistics (s : State) : State :=
  { s with
    classifier := { s.classifier with
      bearers := s.classifier.bearers.map Descriptor.cleared
      counts := .all .zero }
    store := s.store.cleared
    links := s.links.map fun k => { k with counts := .zero }
    coverage := s.coverage.cleared
    registry := s.registry.cleared
    summary := s.summary.cleared
    notices := s.notices.cleared
    capture := s.capture.cleared
    endpoint := s.endpoint.cleared }

/-- STATISTICS_CLEAR (R189). -/
def execStatisticsClear (s : State) : Host.Outcome State Fault Refusal :=
  .next (runCommand 8 0 (fun s => (ruling .ok, clearStatistics s)) s)

/-! ### The capture commands (R174, R175) -/

/-- The unit after an accepted Capture Arm (R174). -/
def CaptureUnit.arm (u : CaptureUnit) (c : CaptureConfig) : CaptureUnit :=
  { u with config := c, buffer := [], hitA := false, hitB := false, triggerCount := 0, postCount := 0, traceCount := 0
           state := if c.mode = .trace then .tracing else .armed }

/-- The judgement and effect of a Capture Arm (R174). -/
def armCapture (f : CaptureFields) (s : State) : Ruling × State :=
  match readCapture f with
  | none => (ruling .badValue, s)
  | some c => (ruling .ok, { s with capture := s.capture.arm c })

/-- CAPTURE_ARM (R174). -/
def execCaptureArm (f : CaptureFields) (s : State) : Host.Outcome State Fault Refusal :=
  .next (runCommand 9 0 (armCapture f) s)

/-- The state code of the unit and two flags, as the result value of a capture command carries them (R175, R197). -/
def captureValue (state : CaptureState) (a b : Bool) : BitVec 32 :=
  BitVec.ofNat 32 (captureStateCode state + (if a then 256 else 0) + (if b then 512 else 0))

/-- The effect of a Capture Stop (R175). -/
def stopCapture (s : State) : Ruling × State :=
  (okValue (captureValue .off false false), { s with capture := { s.capture with state := .off } })

/-- CAPTURE_STOP (R175). -/
def execCaptureStop (s : State) : Host.Outcome State Fault Refusal :=
  .next (runCommand 10 0 stopCapture s)

/-- The effect of a Capture Clear Hits (R175). -/
def clearHits (s : State) : Ruling × State :=
  (okValue (captureValue s.capture.state s.capture.hitA s.capture.hitB),
    { s with capture := { s.capture with hitA := false, hitB := false } })

/-- CAPTURE_CLEAR_HITS (R175). -/
def execCaptureClearHits (s : State) : Host.Outcome State Fault Refusal :=
  .next (runCommand 12 0 clearHits s)

end Sys2Proof.Machine
end

