-- ==== Sys2Proof/Machine/Reading.lean ====
section
/-! DEFINITION. The commands that return data: Identify (R188), Read Entries (R186), Statistics Read (R189) and Capture
Read (R176), in the layouts of R197 and R198. -/

namespace Sys2Proof.Machine

/-! ### Identify -/

/-- The result data of Identify, 20 bytes (R188, R197). -/
def identityData (s : State) : List Byte :=
  put16 s.identity.vendorCode.toNat ++ put16 s.identity.partCode.toNat ++ put16 s.identity.revision.toNat ++
    put48 s.identity.station.toNat ++ put16 s.identity.managementEtherType.toNat ++
    put16 s.identity.defaultBearerEtherType.toNat ++ put32 s.quayTime.toNat

/-- IDENTIFY (R188). -/
def execIdentify (s : State) : Host.Outcome State Fault Refusal :=
  .next (runCommand 1 20 (fun s => (okData (identityData s), s)) s)

/-! ### Read Entries -/

/-- The entries of a table and the size of an entry as read, by table code; none for a table the part does not know
(R186, R197). -/
def tableShape (table : Nat) : Option (Nat × Nat) :=
  match table with
  | 1 => some (54, 6)
  | 2 => some (4, 6)
  | 3 => some (32, 6)
  | 4 => some (256, 1)
  | 5 => some (4096, 32)
  | 6 => some (16, 192)
  | 7 => some (1024, 4)
  | 8 => some (16, 24)
  | 9 => some (2048, 64)
  | 10 => some (2048, 16)
  | _ => none

/-- An entry of a table as Read Entries returns it (R198). -/
def entryData (s : State) (table i : Nat) : List Byte :=
  match table with
  | 1 => put48 (s.setting i)
  | 2 => put48 (s.endpoint.managers.get i).toNat
  | 3 => putCellEntry (s.classifier.cells.get i)
  | 4 => putSegment (s.paths.geometry.get i)
  | 5 => putDescriptor (s.classifier.bearers.get i)
  | 6 => putCraneLink (s.links.get i)
  | 7 => putPathEntry (s.paths.staged.get i) ++ putPathEntry (s.paths.active.get i)
  | 8 => putProfile (s.registry.profiles.get i)
  | 9 => putReeferSlot (s.registry.slots.get i)
  | 10 => putCoverEntry (s.cover i)
  | _ => []

/-- The judgement of Read Entries: an unknown table, then the range; an accepted read returns the entries in index
order and changes nothing (R183 test 4, R186). -/
def readTable (table first count : Nat) (s : State) : Ruling × State :=
  match tableShape table with
  | none => (ruling .badTable, s)
  | some (entries, _) =>
    if rangeCode entries first count = .ok then
      (okData ((List.range count).flatMap fun k => entryData s table (first + k)), s)
    else (ruling (rangeCode entries first count), s)

/-- The size of the result data a Read Entries asks for (R184). -/
def readSize (table count : Nat) : Nat := match tableShape table with
  | none => 0
  | some (_, size) => count * size

/-- READ_ENTRIES (R186). -/
def execReadEntries (table : Byte) (first count : Nat) (s : State) : Host.Outcome State Fault Refusal :=
  .next (runCommand 2 (readSize table.toNat count) (readTable table.toNat first count) s)

/-! ### Statistics Read -/

/-- The PORTS group of one port, 24 bytes (R198). -/
def portData (s : State) (p : Port) : List Byte :=
  let a := s.classifier.counts.get (portNumber p)
  let v := s.store.port p
  put32 a.framesReceived.toNat ++ put16 a.foreign.toNat ++ put16 a.malformed.toNat ++ put16 v.receiveErrors.toNat ++
    put16 v.linkLosses.toNat ++ put32 v.framesSent.toNat ++ put32 v.bytesSent.toNat ++ putFlag v.up ++ zeros 3

/-- The QUEUES group of one queue, 24 bytes (R198). -/
def queueData (s : State) (p : Port) (c : Class) : List Byte :=
  let q := s.store.queue p c
  put32 q.admitted.toNat ++ put32 q.fullRefusals.toNat ++ put32 q.poolRefusals.toNat ++
    put32 q.linkDownRefusals.toNat ++ put32 q.flushed.toNat ++ put16 q.entries.length ++ put16 (s.queueLimit p c)

/-- The number of coverage entries in a state (R109). -/
def coverTotal (s : State) (c : CoverState) : Nat := s.coverage.entries.countBelow 2048 fun e => decide (e.state = c)

/-- The number of registered slots in a freshness state (R136). -/
def freshTotal (s : State) (f : Freshness) : Nat :=
  s.registry.slots.countBelow 2048 fun e => e.config.registered && decide (e.record.freshness = f)

/-- The CRANES group of one link, 22 bytes (R198). -/
def craneData (s : State) (i : Nat) : List Byte := putCraneCounts (s.links.get i).counts

/-- The BEARERS group of one descriptor, 12 bytes (R198). -/
def bearerData (s : State) (i : Nat) : List Byte :=
  let d := s.classifier.bearers.get i
  put32 d.framesPassed.toNat ++ put32 d.bytesPassed.toNat ++ put32 d.framesPoliced.toNat

/-- The values of a group, by group code; the range is used by BEARERS and CRANES alone (R189, R198). -/
def groupData (s : State) (group first count : Nat) : List Byte :=
  match group with
  | 1 => allPorts.flatMap (portData s) ++ put32 s.store.noCell.toNat
  | 2 =>
    (allPorts.flatMap fun p => allClasses.flatMap fun c => queueData s p c) ++
      (allPorts.flatMap fun p => put8 (s.store.port p).turn.val ++ put8 (s.store.port p).credit) ++
      put16 s.store.free ++ put16 s.store.least ++ zeros 2
  | 3 => (List.range count).flatMap fun k => bearerData s (first + k)
  | 4 => (List.range count).flatMap fun k => craneData s (first + k)
  | 5 =>
    put32 s.coverage.taken.toNat ++ put32 s.coverage.skipped.toNat ++ put32 s.coverage.shadowed.toNat ++
      put32 s.coverage.discarded.toNat ++ put16 s.coverage.holesSet.toNat ++ put16 s.coverage.holesCleared.toNat ++
      put16 s.coverage.aged.toNat ++ put16 (coverTotal s .unknown) ++ put16 (coverTotal s .good) ++
      put16 (coverTotal s .hole)
  | 6 =>
    put32 s.registry.taken.toNat ++ put32 s.registry.unregistered.toNat ++ put32 s.registry.mismatched.toNat ++
      put32 s.registry.repeated.toNat ++ put32 s.registry.accepted.toNat ++ put16 (freshTotal s .never) ++
      put16 (freshTotal s .fresh) ++ put16 (freshTotal s .stale) ++ put16 (freshTotal s .lost)
  | 7 =>
    put32 s.summary.framesSent.toNat ++ put32 s.summary.recordsSent.toNat ++ put16 s.summary.framesRefused.toNat ++
      put16 s.summary.passesCompleted.toNat ++ put16 s.summary.passesDeferred.toNat ++ put16 s.summary.overruns.toNat ++
      put32 s.registry.absorbed.toNat ++ put16 s.registry.changeList.length ++
      put16 ((s.registry.changeList.head?.map Fin.val).getD 0) ++ put16 s.summary.counter.toNat ++
      putFlag s.summary.passing ++ putFlag s.registry.changeList.head?.isSome ++ put32 s.summary.timer.toNat
  | 8 =>
    put16 s.notices.suppressed.crane.toNat ++ put16 s.notices.suppressed.coverage.toNat ++
      put16 s.notices.suppressed.reefer.toNat ++ put16 s.notices.suppressed.capture.toNat ++
      put16 s.notices.suppressed.port.toNat ++ put16 s.notices.lost.toNat ++ put32 s.notices.framesSent.toNat ++
      put32 s.notices.noticesSent.toNat ++ put16 s.notices.framesRefused.toNat ++ put8 s.notices.queue.length ++
      put8 ((lowestLevel s.notices.queue).getD 0) ++ putFlag s.notices.pacing.isSome ++
      putFlag s.notices.pacing.isSome ++ put16 s.notices.counter.toNat ++ putTime s.notices.pacing
  | 9 =>
    put32 s.capture.matchesA.toNat ++ put32 s.capture.matchesB.toNat ++ put32 s.capture.recorded.toNat ++
      put16 s.capture.triggers.toNat ++ put8 (captureStateCode s.capture.state) ++
      put8 (bitsOf [s.capture.hitA, s.capture.hitB]) ++ put16 s.capture.buffer.length ++ zeros 2
  | 10 =>
    put32 s.endpoint.executed.toNat ++ put16 s.endpoint.rejected.toNat ++ put16 s.endpoint.malformed.toNat ++
      put16 s.endpoint.overrun.toNat ++ put16 s.endpoint.repliesLost.toNat
  | _ => []

/-- The size of the result data of a group; 0 for a group the part does not know (R183 test 5, R197). -/
def groupSize (group count : Nat) : Nat :=
  match group with
  | 1 => 124
  | 2 => 496
  | 3 => 12 * count
  | 4 => 22 * count
  | 5 => 28
  | 6 => 28
  | 7 => 32
  | 8 => 32
  | 9 => 20
  | 10 => 12
  | _ => 0

/-- The judgement of a Statistics Read (R189). -/
def groupCode (group first count : Nat) : ResultCode :=
  match group with
  | 3 => rangeCode 4096 first count
  | 4 => rangeCode 16 first count
  | _ => if within 1 10 group then .ok else .badValue

/-- STATISTICS_READ (R189). -/
def execStatisticsRead (group : Byte) (first count : Nat) (s : State) : Host.Outcome State Fault Refusal :=
  .next (runCommand 7 (groupSize group.toNat count)
    (fun s => if groupCode group.toNat first count = .ok then (okData (groupData s group.toNat first count), s)
      else (ruling (groupCode group.toNat first count), s)) s)

/-! ### Capture Read -/

/-- The status of the Capture Unit, 12 bytes (R176, R197). -/
def captureStatus (u : CaptureUnit) (returned : Nat) : List Byte :=
  put8 (captureStateCode u.state) ++ put8 (captureModeCode u.config.mode) ++ put8 (bitsOf [u.hitA, u.hitB]) ++
    put8 returned ++ put16 u.buffer.length ++ put16 u.triggerCount ++ put16 u.traceCount ++ put8 u.postCount ++ put8 0

/-- The status and entries of a Capture Read; slots beyond the entries returned are zero (R176, R197). -/
def captureData (u : CaptureUnit) (offset count : Nat) : List Byte :=
  let entries := (u.buffer.drop offset).take count
  captureStatus u entries.length ++ padTo (16 * count) (entries.flatMap putCaptureEntry)

/-- The judgement of a Capture Read (R176; the order of the two tests, log entry 13). -/
def captureReadCode (offset count : Nat) : ResultCode :=
  if 255 < offset then .badIndex else if within 1 32 count then .ok else .badValue

/-- CAPTURE_READ (R176). -/
def execCaptureRead (offset count : Nat) (s : State) : Host.Outcome State Fault Refusal :=
  .next (runCommand 11 (12 + 16 * count)
    (fun s => if captureReadCode offset count = .ok then (okData (captureData s.capture offset count), s)
      else (ruling (captureReadCode offset count), s)) s)

end Sys2Proof.Machine
end

