-- ==== Sys2Proof/Machine/Tables.lean ====
section
/-! DEFINITION. Write Entry and Clear Entries on every table but SETTINGS (R186): MANAGERS (R182), CELLS (R29), GEOMETRY
(R77), BEARERS (R18 to R21), CRANES (R46 to R50, R74), PATHS (R79), PROFILES (R113, R114), REEFERS (R134, R135) and
COVERAGE (R107, R108). -/

namespace Sys2Proof.Machine

/-! ### The common mechanics (R186) -/

/-- The judgement of a Write Entry on a table of some entries: an index beyond them is BAD_INDEX, fields out of range
(none) are BAD_VALUE, and then the table's own test speaks; OK stores the entry. -/
def writeEntry {α : Type} (entries index : Nat) (fields : Option α) (test : α → ResultCode)
    (store : α → State → State) (s : State) : Ruling × State :=
  if entries ≤ index then (ruling .badIndex, s)
  else
    match fields with
    | none => (ruling .badValue, s)
    | some v => guarded (test v) (store v) s

/-- The judgement of a Clear Entries on a table of some entries: the range, then the table's own test. -/
def clearEntries (entries first count : Nat) (test : ResultCode) (clear : State → State) (s : State) :
    Ruling × State :=
  guarded (if rangeCode entries first count = .ok then test else rangeCode entries first count) clear s

/-! ### MANAGERS (R182) -/

/-- An entry of the manager list is replaced. -/
def storeManager (index : Nat) (a : Address) (s : State) : State :=
  { s with endpoint := { s.endpoint with managers := s.endpoint.managers.set index a } }

/-- WRITE_MANAGERS (R182): every address is accepted. -/
def execWriteManagers (index : Nat) (a : Address) (s : State) : Host.Outcome State Fault Refusal :=
  .next (runCommand writeCode 0 (writeEntry 4 index (some a) (fun _ => .ok) (storeManager index)) s)

/-- A range of the manager list is emptied. -/
def clearManagerRange (first count : Nat) (s : State) : State :=
  { s with endpoint := { s.endpoint with managers := s.endpoint.managers.fill first count 0 } }

/-- CLEAR_MANAGERS (R182). -/
def execClearManagers (first count : Nat) (s : State) : Host.Outcome State Fault Refusal :=
  .next (runCommand clearCode 0 (clearEntries 4 first count .ok (clearManagerRange first count)) s)

/-! ### CELLS (R29) -/

/-- A cell entry is replaced; its port up flag is set from the new fields and the link state of the named port
(R28, R29). -/
def storeCell (index : Nat) (v : Bool × Fin 4 × BitVec 16) (s : State) : State :=
  let entry : CellEntry :=
    { present := v.1, quayPort := v.2.1, label := v.2.2, portUp := v.1 && (s.store.port (quayPort v.2.1)).up }
  { s with classifier := { s.classifier with cells := s.classifier.cells.set index entry } }

/-- WRITE_CELLS (R29). -/
def execWriteCells (index : Nat) (f : CellFields) (s : State) : Host.Outcome State Fault Refusal :=
  .next (runCommand writeCode 0 (writeEntry 32 index (readCell f) (fun _ => .ok) (storeCell index)) s)

/-- A range of cells is set absent. -/
def clearCellRange (first count : Nat) (s : State) : State :=
  { s with classifier := { s.classifier with cells := s.classifier.cells.fill first count .cold } }

/-- CLEAR_CELLS (R29). -/
def execClearCells (first count : Nat) (s : State) : Host.Outcome State Fault Refusal :=
  .next (runCommand clearCode 0 (clearEntries 32 first count .ok (clearCellRange first count)) s)

/-! ### GEOMETRY (R77) -/

/-- A geometry entry is replaced. -/
def storeGeometry (bay : Nat) (g : Option Segment) (s : State) : State :=
  { s with paths := { s.paths with geometry := s.paths.geometry.set bay g } }

/-- WRITE_GEOMETRY (R77): bay 255 and bays above it are BAD_INDEX. -/
def execWriteGeometry (bay : Nat) (segment : Byte) (s : State) : Host.Outcome State Fault Refusal :=
  .next (runCommand writeCode 0 (writeEntry 255 bay (segmentField segment) (fun _ => .ok) (storeGeometry bay)) s)

/-- A range of bays is set to NONE. -/
def clearGeometryRange (first count : Nat) (s : State) : State :=
  { s with paths := { s.paths with geometry := s.paths.geometry.fill first count none } }

/-- CLEAR_GEOMETRY (R77): a range may include bay 255, which stays NONE. -/
def execClearGeometry (first count : Nat) (s : State) : Host.Outcome State Fault Refusal :=
  .next (runCommand clearCode 0 (clearEntries 256 first count .ok (clearGeometryRange first count)) s)

/-! ### BEARERS (R18 to R21) -/

/-- The treatment is CRANE and names a link that is not IDLE (R20). -/
def State.engages (s : State) : Treatment → Bool
  | .crane l => !decide ((s.link l).state = .idle)
  | .absent => false
  | .general _ => false
  | .reefer _ _ => false
  | .redirect _ => false

/-- The target of a REDIRECT names a bearer that may not be redirected to: 0, the entry itself, or one neither GENERAL
nor REEFER (R18 step 2). -/
def State.badTarget (s : State) (index : Nat) : Treatment → Bool
  | .redirect target =>
    decide (target = 0) || decide (target.toNat = index) ||
      (match (s.bearer target.toNat).treatment with
        | .general _ => false
        | .reefer _ _ => false
        | .absent => true
        | .crane _ => true
        | .redirect _ => true)
  | .absent => false
  | .general _ => false
  | .crane _ => false
  | .reefer _ _ => false

/-- The tests of a Write Entry on BEARERS that read other state (R18 steps 2 and 3, R20). -/
def bearerTest (index : Nat) (s : State) (d : Descriptor) : ResultCode :=
  if s.badTarget index d.treatment then .badValue
  else if s.engages (s.bearer index).treatment || s.engages d.treatment then .busy
  else .ok

/-- A descriptor as an accepted write leaves it: its bucket full at the quay time of the write, touched clear and its
counters 0 (R19). -/
def Descriptor.written (d : Descriptor) (now : QuayTime) : Descriptor :=
  { d with touched := false, level := d.burstBytes, stamp := now, framesPassed := 0, bytesPassed := 0,
           framesPoliced := 0 }

/-- The judgement of a Write Entry on BEARERS; index 0 cannot be written (R18). -/
def writeBearer (index : Nat) (f : BearerFields) (s : State) : Ruling × State :=
  if index = 0 then (ruling .badIndex, s)
  else writeEntry 4096 index (readBearer f) (bearerTest index s)
    (fun d s => s.setBearer index (d.written s.quayTime)) s

/-- WRITE_BEARERS (R18 to R20). -/
def execWriteBearers (index : Nat) (f : BearerFields) (s : State) : Host.Outcome State Fault Refusal :=
  .next (runCommand writeCode 0 (writeBearer index f) s)

/-- Some entry of a range of the Bearer Table is engaged with a crane link (R21). -/
def State.engagedRange (s : State) (first count : Nat) : Bool :=
  (List.range count).any fun k => s.engages (s.bearer (first + k)).treatment

/-- The judgement of a Clear Entries on BEARERS; a range with index 0 is BAD_INDEX, and that
comes before BUSY (R21; the order, here and in `clearEntries`, is the model's choice, log entry 13). -/
def bearerRangeTest (first count : Nat) (s : State) : ResultCode :=
  if first = 0 then .badIndex else if s.engagedRange first count then .busy else .ok

/-- Each descriptor of a range is set as by a write of kind ABSENT (R21). -/
def clearBearerRange (first count : Nat) (s : State) : State :=
  { s with classifier := { s.classifier with
      bearers := s.classifier.bearers.fill first count (Descriptor.cold.written s.quayTime) } }

/-- CLEAR_BEARERS (R21). -/
def execClearBearers (first count : Nat) (s : State) : Host.Outcome State Fault Refusal :=
  .next (runCommand clearCode 0
    (fun s => clearEntries 4096 first count (bearerRangeTest first count s) (clearBearerRange first count) s) s)

/-! ### CRANES (R46 to R50, R74) -/

/-- The link with the dynamic values of entry to ARMING but for the hold order counter, and the selector's fields at
their entry values (R48, R74). -/
def CraneLink.armed (k : CraneLink) : CraneLink :=
  { k with state := .arming, missed := 0, streak := 0, upDeadline := none, downDeadline := none, upAlive := false
           upSeq := none, downSeq := none, lastSent := none, segment := none, boom := .unknown, reason := .none
           releaseExpiry := none, nextHold := none, resolved := [], previous := [], overlapExpiry := none
           pathPoor := false, applyNow := false }

/-- The link as entry to IDLE leaves it, its pending commit applied already (R49, R74). -/
def CraneLink.idled (k : CraneLink) : CraneLink :=
  { k with state := .idle, upDeadline := none, downDeadline := none, upAlive := false, upSeq := none, downSeq := none
           lastSent := none, missed := 0, streak := 0, segment := none, boom := .unknown, resolved := []
           previous := [], overlapExpiry := none, pathPoor := false, applyNow := false }

/-- The configuration with the enable and the four notice levels of another. -/
def CraneConfig.withLevels (c d : CraneConfig) : CraneConfig :=
  { c with enable := d.enable, degradedLevel := d.degradedLevel, holdLevel := d.holdLevel
           releasedLevel := d.releasedLevel, pathPoorLevel := d.pathPoorLevel }

/-- A write with enable 1 names a bearer whose entry is not a CRANE descriptor naming the link (R46 step 2). -/
def State.badBearer (s : State) (l : Link) (c : CraneConfig) : Bool :=
  c.enable && !decide ((s.bearer c.bearer.toNat).treatment = .crane l)

/-- The tests of a Write Entry on CRANES that read other state (R46, R47). -/
def craneTest (l : Link) (s : State) (c : CraneConfig) : ResultCode :=
  let k := s.link l
  if s.badBearer l c then .badValue
  else if k.state = .idle then .ok
  else if !decide (k.config.withLevels c = c) then .busy
  else if !c.enable && decide (k.state = .hold ∨ k.state = .releasing) then .refused
  else .ok

/-- A working link is disabled: its pending commit is applied and it enters IDLE (R47, R49). -/
def enterIdle (l : Link) (s : State) : State :=
  let s := applyPending l s
  s.setLink l (s.link l).idled

/-- The effect of an accepted Write Entry on CRANES (R47): an IDLE link takes the configuration and, if enabled,
enters ARMING; another link takes the levels and, if disabled, enters IDLE. -/
def storeCrane (l : Link) (c : CraneConfig) (s : State) : State :=
  let k := { s.link l with config := c }
  if (s.link l).state = .idle then
    s.setLink l (if c.enable then { k.armed with holdCounter := 0 } else k)
  else if c.enable then s.setLink l k
  else enterIdle l (s.setLink l k)

/-- The judgement and effect of a Write Entry on CRANES. -/
def writeCrane (index : Nat) (f : CraneFields) (s : State) : Ruling × State :=
  if h : index < 16 then
    writeEntry 16 index (readCrane f) (craneTest ⟨index, h⟩ s) (storeCrane ⟨index, h⟩) s
  else (ruling .badIndex, s)

/-- WRITE_CRANES (R46 to R49). -/
def execWriteCranes (index : Nat) (f : CraneFields) (s : State) : Host.Outcome State Fault Refusal :=
  .next (runCommand writeCode 0 (writeCrane index f) s)

/-- Some link of a range is not IDLE (R50). -/
def State.workingRange (s : State) (first count : Nat) : Bool :=
  (List.range count).any fun k => !decide ((s.links.get (first + k)).state = .idle)

/-- Each link of a range takes the cold configuration (R50). -/
def clearCraneRange (first count : Nat) (s : State) : State :=
  { s with links := s.links.modifyRange first count fun k => { k with config := .cold } }

/-- CLEAR_CRANES (R50). -/
def execClearCranes (first count : Nat) (s : State) : Host.Outcome State Fault Refusal :=
  .next (runCommand clearCode 0
    (fun s => clearEntries 16 first count (if s.workingRange first count then .busy else .ok)
      (clearCraneRange first count) s) s)

/-! ### PATHS (R79) -/

/-- The staged entry a Write Entry on PATHS carries; none for BAD_VALUE. -/
def readPath (primary alternate : Byte) : Option PathEntry := do
  let p ← cellField primary
  let a ← cellField alternate
  some { primary := p, alternate := a }

/-- A staged entry is replaced. -/
def storePath (index : Nat) (e : PathEntry) (s : State) : State :=
  { s with paths := { s.paths with staged := s.paths.staged.set index e } }

/-- WRITE_PATHS (R79). -/
def execWritePaths (index : Nat) (primary alternate : Byte) (s : State) : Host.Outcome State Fault Refusal :=
  .next (runCommand writeCode 0 (writeEntry 1024 index (readPath primary alternate) (fun _ => .ok) (storePath index)) s)

/-- A range of staged entries is set to NONE and NONE. -/
def clearPathRange (first count : Nat) (s : State) : State :=
  { s with paths := { s.paths with staged := s.paths.staged.fill first count ⟨none, none⟩ } }

/-- CLEAR_PATHS (R79). -/
def execClearPaths (first count : Nat) (s : State) : Host.Outcome State Fault Refusal :=
  .next (runCommand clearCode 0 (clearEntries 1024 first count .ok (clearPathRange first count)) s)

/-! ### PROFILES (R113, R114) -/

/-- A profile is replaced whole. -/
def storeProfile (index : Nat) (p : Profile) (s : State) : State :=
  { s with registry := { s.registry with profiles := s.registry.profiles.set index p } }

/-- WRITE_PROFILES (R113). -/
def execWriteProfiles (index : Nat) (f : ProfileFields) (s : State) : Host.Outcome State Fault Refusal :=
  .next (runCommand writeCode 0 (writeEntry 16 index (readProfile f) (fun _ => .ok) (storeProfile index)) s)

/-- A range of profiles is set to the cold profile. -/
def clearProfileRange (first count : Nat) (s : State) : State :=
  { s with registry := { s.registry with profiles := s.registry.profiles.fill first count .cold } }

/-- CLEAR_PROFILES (R114). -/
def execClearProfiles (first count : Nat) (s : State) : Host.Outcome State Fault Refusal :=
  .next (runCommand clearCode 0 (clearEntries 16 first count .ok (clearProfileRange first count)) s)

/-! ### REEFERS (R134, R135) -/

/-- The change list without the slots of a range, from a first one on (R112, R139). -/
def dropChanged (list : List Slot) (first count : Nat) : List Slot :=
  list.filter fun i => !(decide (first ≤ i.val) && decide (i.val < first + count))

/-- A slot takes a configuration and its NEVER values, and leaves the change list (R112, R134). -/
def storeReefer (index : Nat) (c : ReeferConfig) (s : State) : State :=
  { s with registry := { s.registry with
      slots := s.registry.slots.set index { config := c, record := .never }
      changeList := dropChanged s.registry.changeList index 1 } }

/-- WRITE_REEFERS (R134). -/
def execWriteReefers (index : Nat) (f : ReeferFields) (s : State) : Host.Outcome State Fault Refusal :=
  .next (runCommand writeCode 0 (writeEntry 2048 index (readReefer f) (fun _ => .ok) (storeReefer index)) s)

/-- Each slot of a range takes the cold configuration and its NEVER values, and leaves the change list (R135). -/
def clearReeferRange (first count : Nat) (s : State) : State :=
  { s with registry := { s.registry with
      slots := s.registry.slots.fill first count .cold
      changeList := dropChanged s.registry.changeList first count } }

/-- CLEAR_REEFERS (R135). -/
def execClearReefers (first count : Nat) (s : State) : Host.Outcome State Fault Refusal :=
  .next (runCommand clearCode 0 (clearEntries 2048 first count .ok (clearReeferRange first count)) s)

/-! ### COVERAGE (R107, R108) -/

/-- WRITE_COVERAGE (R107): refused BAD_TABLE, whatever the index. -/
def execWriteCoverage (_index : Nat) (s : State) : Host.Outcome State Fault Refusal :=
  .next (runCommand writeCode 0 (fun s => (ruling .badTable, s)) s)

/-- Each entry of a range forgets all it holds (R108). -/
def clearCoverageRange (first count : Nat) (s : State) : State :=
  { s with coverage := { s.coverage with entries := s.coverage.entries.fill first count .cold } }

/-- CLEAR_COVERAGE (R108). -/
def execClearCoverage (first count : Nat) (s : State) : Host.Outcome State Fault Refusal :=
  .next (runCommand clearCode 0 (clearEntries 2048 first count .ok (clearCoverageRange first count)) s)

end Sys2Proof.Machine
end

