-- ==== Sys2Proof/Machine/Reset.lean ====
section
/-! DEFINITION. The two resets: COLD_RESET (R22, R44, R72, R74, R76, R78, R110, R137, R150, R162, R179, R187, R191) and
the Restart command with the warm restart it orders (R190; R23, R45, R73, R75, R111, R138, R150, R163, R180, R191). -/

namespace Sys2Proof.Machine

/-- COLD_RESET: every item of state returns to its cold value; the identity store and the commands that wait are no
state the reset reaches (R22, R188; log entry 1). -/
def execColdReset (s : State) : Host.Outcome State Fault Refusal :=
  .next { State.cold s.identity with pending := s.pending }

/-! ### The warm restart, block by block -/

/-- A descriptor with its bucket full at the quay time of the restart (R23). -/
def Descriptor.restarted (d : Descriptor) (now : QuayTime) : Descriptor := { d with level := d.burstBytes, stamp := now }

/-- The Ingress Classifier after a warm restart (R23); descriptor 0 reads as it always does (1.3). -/
def Classifier.restarted (c : Classifier) (now : QuayTime) : Classifier :=
  { c with bearers := (c.bearers.map fun d => d.restarted now).set 0 .cold }

/-- The entry is the reply that the restart spares (R45). -/
def QueueEntry.spared (e : QueueEntry) : Bool := decide (e.origin = .restartReply)

/-- The frame in transmission on a port is the reply that the restart spares. -/
def PortState.sparesTx (p : PortState) : Bool :=
  match p.tx with
  | none => false
  | some t => t.entry.spared

/-- The traffic of a port is cut off and discarded, the spared reply aside, and its turn is reset (R45). -/
def FrameStore.flushPort (st : FrameStore) (p : Port) : FrameStore :=
  let cut := if (st.port p).sparesTx then st else st.cutOff p
  (cut.dropAt p fun e => !e.spared).resetTurn p

/-- A reply that was spared is a reply like any other from then on (R45). -/
def QueueEntry.settled (e : QueueEntry) : QueueEntry := if e.spared then { e with origin := .reply } else e

/-- The spared reply, waiting or in transmission on the yard port, is settled. -/
def FrameStore.settleReply (st : FrameStore) : FrameStore :=
  let q := st.queue .y 1
  let port := st.port .y
  (st.setQueue .y 1 { q with entries := q.entries.map QueueEntry.settled }).setPort .y
    { port with tx := port.tx.map fun t => { t with entry := t.entry.settled } }

/-- The Frame Store after a warm restart: the traffic in flight is cleared, the mark set, and the yard port selects
the spared reply if it waits (R33, R40, R45). -/
def FrameStore.restarted (st : FrameStore) (settings : Table Nat) : FrameStore :=
  let flushed := allPorts.foldl FrameStore.flushPort st
  ({ flushed with least := flushed.free }).settleReply.select settings .y

/-- A link that is in HOLD after the restart (R73, R75). -/
def CraneLink.stillHeld (k : CraneLink) : CraneLink :=
  { k with state := .hold, releaseExpiry := none, upDeadline := none, upAlive := false, previous := []
           overlapExpiry := none }

/-- What a warm restart does to a link (R73, R75), its hold order aside. -/
def restartLink (l : Link) (s : State) : State :=
  match (s.link l).state with
  | .idle => s
  | .arming => let t := applyPending l s; t.setLink l (t.link l).armed
  | .live => let t := applyPending l s; t.setLink l (t.link l).armed
  | .degraded => let t := applyPending l s; t.setLink l (t.link l).armed
  | .hold => s.setLink l (s.link l).stillHeld
  | .releasing => s.setLink l (s.link l).stillHeld

/-- The hold order attempt of a link left in HOLD, once the queues have been flushed (R63, R73). -/
def restartHold (l : Link) (s : State) : State :=
  if (s.link l).state = .hold then
    let t := holdAttempt l s
    t.setLink l { t.link l with nextHold := some (later t.quayTime (t.link l).config.period) }
  else s

/-- A coverage entry after a warm restart: its estimate and last sample time are kept (R111). -/
def CoverEntry.restarted (e : CoverEntry) : CoverEntry := { e with state := .unknown, count := 0, age := none }

/-- A slot after a warm restart: its NEVER values, with the mismatch and duplicate counts kept (R138). -/
def ReeferSlot.restarted (r : ReeferSlot) : ReeferSlot :=
  { r with record := { ReeferRecord.never with mismatches := r.record.mismatches, duplicates := r.record.duplicates } }

/-- The Summary Builder after a warm restart (R140, R150). -/
def SummaryBuilder.restarted (b : SummaryBuilder) (now : QuayTime) (interval : Nat) : SummaryBuilder :=
  { b with passing := false, timer := later now (interval * 1000) }

/-- The Capture Unit after a warm restart (R180). -/
def CaptureUnit.restarted (u : CaptureUnit) : CaptureUnit :=
  { u with state := .off, buffer := [], triggerCount := 0, postCount := 0, traceCount := 0 }

/-- Every block passes to its warm values; the crane links follow (R190). -/
def restartBlocks (s : State) : State :=
  { s with
    classifier := s.classifier.restarted s.quayTime
    store := s.store.restarted s.settings
    coverage := { s.coverage with entries := s.coverage.entries.map CoverEntry.restarted }
    registry := { s.registry with slots := s.registry.slots.map ReeferSlot.restarted, changeList := [] }
    summary := s.summary.restarted s.quayTime (s.setting 48)
    notices := { s.notices with queue := [], pacing := none }
    capture := s.capture.restarted
    endpoint := { s.endpoint with requests := [], executing := none } }

/-- The warm restart takes effect (R190). -/
def warmRestart (s : State) : State :=
  let s := allLinks.foldl (fun s l => restartLink l s) (restartBlocks s)
  allLinks.foldl (fun s l => restartHold l s) s

/-! ### The Restart command (R190) -/

/-- The code of Restart. -/
def restartCode : Byte := 13

/-- The results of a request that meets a Restart: OK for it, and NOT_RUN for every command after it (R190). -/
def Execution.restarted (e : Execution) : Execution :=
  let ok := (ruling .ok).answer restartCode
  { e with results := e.results ++ ok ::
      (e.request.commands.drop (e.results.length + 1)).map fun c => (ruling .notRun).answer c.code }

/-- A Restart is executed: in a request, the reply is composed and offered first (R190); by itself it is answered OK
(log entry 7). The warm restart then takes effect. -/
def orderRestart (s : State) : State :=
  let t := showAnswer ((ruling .ok).answer restartCode) s
  match s.endpoint.executing with
  | none => warmRestart t
  | some e => warmRestart (endRequest .restartReply e.restarted t)

/-- RESTART (R190): after a NOT_RUN it is given NOT_RUN and orders nothing. -/
def execRestart (s : State) : Host.Outcome State Fault Refusal :=
  .next (match s.endpoint.executing with
    | none => orderRestart s
    | some e => if e.cannotRun 0 then settle e ((ruling .notRun).answer restartCode) s else orderRestart s)

end Sys2Proof.Machine
end

