-- ==== Sys2Proof/Machine/Summary.lean ====
section
/-! DEFINITION. The Summary Builder (chapter 7): the timer (R140), the pass (R142, R143), building and offering a frame
(R144 to R146); and the pacing deadline of the Notice Unit (R157). -/

namespace Sys2Proof.Machine

/-- The records a summary frame is built from: the first slots of a list, at most 24 (R144). -/
def summaryRecords (s : State) : List (Slot × ReeferSlot) :=
  (s.registry.changeList.take 24).map fun i => (i, s.slot i)

/-- A slot's record after it is summarised (R146). -/
def ReeferRecord.summarise (r : ReeferRecord) : ReeferRecord := { r with changed := false, summarised := r.confirmed }

/-- The packed slots are summarised: each leaves the list, its flag clears and its reference is set (R146). -/
def summariseSlots (s : State) : State :=
  let s' := (s.registry.changeList.take 24).foldl (fun s i => s.setRecord i (s.slot i).record.summarise) s
  { s' with registry := { s'.registry with changeList := s.registry.changeList.drop 24 } }

/-- The pass ends. -/
def SummaryBuilder.ended (b : SummaryBuilder) : SummaryBuilder := { b with passing := false }

/-- A summary frame is built and offered, and its answer acted on (R144, R145). -/
def sendSummary (s : State) : State :=
  let records := summaryRecords s
  let number := s.summary.counter + 1
  let a := s.offer .y 3 none .summary
    (summaryFrame s.identity (BitVec.ofNat 48 (s.setting 49)) s.quayTime number records)
  match a.1 with
  | .admitted =>
    let s := summariseSlots a.2
    { s with summary := { s.summary with
      counter := number, framesSent := s.summary.framesSent + 1
      recordsSent := s.summary.recordsSent + BitVec.ofNat 32 records.length } }
  | .refused _ =>
    let b := a.2.summary.ended
    { a.2 with summary := { b with framesRefused := bump16 b.framesRefused } }

/-- A frame step of a pass in progress (R143). -/
def stepPass (s : State) : State :=
  let b := s.summary.ended
  if s.setting 49 = 0 then { s with summary := b }
  else if s.registry.changeList.isEmpty then
    { s with summary := { b with passesCompleted := bump16 b.passesCompleted } }
  else if s.queueLimit .y 3 ≤ 2 * (s.store.queue .y 3).entries.length then
    { s with summary := { b with passesDeferred := bump16 b.passesDeferred } }
  else sendSummary s

/-- FRAME_STEP (R143): the next frame step of a pass in progress; without one there is none to make. -/
def execFrameStep (s : State) : Host.Outcome State Fault Refusal :=
  .next (if s.summary.passing then stepPass s else s)

/-- The summary timer re-armed from its own expiry (R140). -/
def rearmSummary (s : State) : State :=
  { s with summary := { s.summary with timer := later s.summary.timer (s.setting 48 * 1000) } }

/-- SUMMARY_TIMER_EXPIRY (R140, R142): the timer, when reached, is re-armed; a pass begins with its first frame step,
or an overrun is counted (log entry 2). With destination 0 and a pass still in progress the overrun is counted: R140 and
R147 before R142's "no counter changes", the model's choice (log entry 27). -/
def execSummaryTimerExpiry (s : State) : Host.Outcome State Fault Refusal :=
  .next (if reached s.quayTime s.summary.timer then
      let s := rearmSummary s
      if s.summary.passing then { s with summary := { s.summary with overruns := bump16 s.summary.overruns } }
      else if s.setting 49 = 0 then s
      else stepPass { s with summary := { s.summary with passing := true } }
    else s)

/-- PACING_DEADLINE_EXPIRY (R157): a pacing deadline that is armed and reached makes the unit READY and brings an
emission attempt if notices are queued and there is a destination (log entry 2). -/
def execPacingDeadlineExpiry (s : State) : Host.Outcome State Fault Refusal :=
  .next (if due s.quayTime s.notices.pacing then
      ({ s with notices := { s.notices with pacing := none } }).emitNotices
    else s)

end Sys2Proof.Machine
end

