-- ==== Sys2Proof/Machine/Dispatch.lean ====
section
/-! DEFINITION. The meaning of every command, one arm for each row of spec/opcode_table.json. -/

namespace Sys2Proof.Machine

/-- The effect of a command on everything but the queue of commands. -/
def exec (i : Instr) (s : State) : Host.Outcome State Fault Refusal :=
  match i with
  | .coldReset => Sys2Proof.Machine.execColdReset s
  | .frameArrival port frame checkRight => Sys2Proof.Machine.execFrameArrival port frame checkRight s
  | .transmissionCompletion port => Sys2Proof.Machine.execTransmissionCompletion port s
  | .linkLoss port receiving => Sys2Proof.Machine.execLinkLoss port receiving s
  | .linkGain port => Sys2Proof.Machine.execLinkGain port s
  | .deadlineExpiry link direction => Sys2Proof.Machine.execDeadlineExpiry link direction s
  | .releaseExpiry link => Sys2Proof.Machine.execReleaseExpiry link s
  | .holdOrderTimeExpiry link => Sys2Proof.Machine.execHoldOrderTimeExpiry link s
  | .overlapExpiry link => Sys2Proof.Machine.execOverlapExpiry link s
  | .ageDeadlineExpiry entry => Sys2Proof.Machine.execAgeDeadlineExpiry entry s
  | .staleDeadlineExpiry slot => Sys2Proof.Machine.execStaleDeadlineExpiry slot s
  | .lostDeadlineExpiry slot => Sys2Proof.Machine.execLostDeadlineExpiry slot s
  | .summaryTimerExpiry => Sys2Proof.Machine.execSummaryTimerExpiry s
  | .frameStep => Sys2Proof.Machine.execFrameStep s
  | .pacingDeadlineExpiry => Sys2Proof.Machine.execPacingDeadlineExpiry s
  | .identify => Sys2Proof.Machine.execIdentify s
  | .readEntries table first count => Sys2Proof.Machine.execReadEntries table first count s
  | .writeSettings index value => Sys2Proof.Machine.execWriteSettings index value s
  | .bearerTypeWrite value => Sys2Proof.Machine.execBearerTypeWrite value s
  | .queueLimitWrite port cls value => Sys2Proof.Machine.execQueueLimitWrite port cls value s
  | .noticeFloorWrite value => Sys2Proof.Machine.execNoticeFloorWrite value s
  | .summaryIntervalWrite value => Sys2Proof.Machine.execSummaryIntervalWrite value s
  | .noticeDestinationWrite value => Sys2Proof.Machine.execNoticeDestinationWrite value s
  | .writeManagers index address => Sys2Proof.Machine.execWriteManagers index address s
  | .writeCells index fields => Sys2Proof.Machine.execWriteCells index fields s
  | .writeGeometry bay segment => Sys2Proof.Machine.execWriteGeometry bay segment s
  | .writeBearers index fields => Sys2Proof.Machine.execWriteBearers index fields s
  | .writeCranes index fields => Sys2Proof.Machine.execWriteCranes index fields s
  | .writePaths index primary alternate => Sys2Proof.Machine.execWritePaths index primary alternate s
  | .writeProfiles index fields => Sys2Proof.Machine.execWriteProfiles index fields s
  | .writeReefers index fields => Sys2Proof.Machine.execWriteReefers index fields s
  | .writeCoverage index => Sys2Proof.Machine.execWriteCoverage index s
  | .clearSettings first count => Sys2Proof.Machine.execClearSettings first count s
  | .clearManagers first count => Sys2Proof.Machine.execClearManagers first count s
  | .clearCells first count => Sys2Proof.Machine.execClearCells first count s
  | .clearGeometry first count => Sys2Proof.Machine.execClearGeometry first count s
  | .clearBearers first count => Sys2Proof.Machine.execClearBearers first count s
  | .clearCranes first count => Sys2Proof.Machine.execClearCranes first count s
  | .clearPaths first count => Sys2Proof.Machine.execClearPaths first count s
  | .clearProfiles first count => Sys2Proof.Machine.execClearProfiles first count s
  | .clearReefers first count => Sys2Proof.Machine.execClearReefers first count s
  | .clearCoverage first count => Sys2Proof.Machine.execClearCoverage first count s
  | .commitPaths mask applyNow => Sys2Proof.Machine.execCommitPaths mask applyNow s
  | .craneHold mask => Sys2Proof.Machine.execCraneHold mask s
  | .statisticsRead group first count => Sys2Proof.Machine.execStatisticsRead group first count s
  | .statisticsClear => Sys2Proof.Machine.execStatisticsClear s
  | .captureArm fields => Sys2Proof.Machine.execCaptureArm fields s
  | .captureStop => Sys2Proof.Machine.execCaptureStop s
  | .captureRead offset count => Sys2Proof.Machine.execCaptureRead offset count s
  | .captureClearHits => Sys2Proof.Machine.execCaptureClearHits s
  | .restart => Sys2Proof.Machine.execRestart s
  | .badCommand command => Sys2Proof.Machine.execBadCommand command s

end Sys2Proof.Machine
end

