-- ==== Sys2Proof/WellFormed.lean ====
section
/-! DEFINITION. The well-formed commands: an operand held as a number or a list has the width its place in a frame
has (R196, R198). Every other operand has its width by its type. -/

namespace Sys2Proof

/-- A number that fits a 2-byte field. -/
def fits16 (n : Nat) : Bool := n < 65536

/-- A frame no longer than a 16-bit length can say, the width of a capture entry's length field (R197). -/
def Frame.wellFormed (f : Frame) : Bool := fits16 (f.data.length + 18)

/-- The template field of a CRANES entry is 64 bytes (R198). -/
def CraneFields.wellFormed (f : CraneFields) : Bool := f.template.length == 64

/-- A container mark is 11 bytes (R198). -/
def ReeferFields.wellFormed (f : ReeferFields) : Bool := f.mark.length == 11

/-- A command's bytes after its header are as many as its carried length gives, one below 4 taken as 4 (R196, R197). -/
def WireCommand.wellFormed (c : WireCommand) : Bool := c.args.length + 4 == max 4 c.carried.toNat

/-- The operands of a command are ones its carried form can hold. -/
def Instr.wellFormed : Instr → Bool
  | .frameArrival _ f _ => f.wellFormed
  | .readEntries _ first count => fits16 first && fits16 count
  | .writeSettings index _ => fits16 index
  | .writeManagers index _ => fits16 index
  | .writeCells index _ => fits16 index
  | .writeGeometry bay _ => fits16 bay
  | .writeBearers index _ => fits16 index
  | .writeCranes index fields => fits16 index && fields.wellFormed
  | .writePaths index _ _ => fits16 index
  | .writeProfiles index _ => fits16 index
  | .writeReefers index fields => fits16 index && fields.wellFormed
  | .writeCoverage index => fits16 index
  | .clearSettings first count => fits16 first && fits16 count
  | .clearManagers first count => fits16 first && fits16 count
  | .clearCells first count => fits16 first && fits16 count
  | .clearGeometry first count => fits16 first && fits16 count
  | .clearBearers first count => fits16 first && fits16 count
  | .clearCranes first count => fits16 first && fits16 count
  | .clearPaths first count => fits16 first && fits16 count
  | .clearProfiles first count => fits16 first && fits16 count
  | .clearReefers first count => fits16 first && fits16 count
  | .clearCoverage first count => fits16 first && fits16 count
  | .statisticsRead _ first count => fits16 first && fits16 count
  | .captureRead offset count => fits16 offset && decide (count < 256)
  | .badCommand c => c.wellFormed
  | .coldReset => true
  | .transmissionCompletion _ => true
  | .linkLoss _ _ => true
  | .linkGain _ => true
  | .deadlineExpiry _ _ => true
  | .releaseExpiry _ => true
  | .holdOrderTimeExpiry _ => true
  | .overlapExpiry _ => true
  | .ageDeadlineExpiry _ => true
  | .staleDeadlineExpiry _ => true
  | .lostDeadlineExpiry _ => true
  | .summaryTimerExpiry => true
  | .frameStep => true
  | .pacingDeadlineExpiry => true
  | .identify => true
  | .bearerTypeWrite _ => true
  | .queueLimitWrite _ _ _ => true
  | .noticeFloorWrite _ => true
  | .summaryIntervalWrite _ => true
  | .noticeDestinationWrite _ => true
  | .commitPaths _ _ => true
  | .craneHold _ => true
  | .statisticsClear => true
  | .captureArm _ => true
  | .captureStop => true
  | .captureClearHits => true
  | .restart => true

end Sys2Proof
end

