-- ==== Sys2Proof/Safety.lean ====
section
/-! DEFINITION. What holds of the part in every run, as predicates on a state, and the few words the statements use:
a management command, a state with no request around a command, a state that shows a result, and the layouts of
chapter 11, each as its table gives it. -/

namespace Sys2Proof.Machine

/-! ### Commands and results -/

/-- The code of a management command (R196); none for an event. -/
def managementCode : Instr → Option Byte
  | .identify => some 1
  | .readEntries _ _ _ => some 2
  | .writeSettings _ _ => some 3
  | .bearerTypeWrite _ => some 3
  | .queueLimitWrite _ _ _ => some 3
  | .noticeFloorWrite _ => some 3
  | .summaryIntervalWrite _ => some 3
  | .noticeDestinationWrite _ => some 3
  | .writeManagers _ _ => some 3
  | .writeCells _ _ => some 3
  | .writeGeometry _ _ => some 3
  | .writeBearers _ _ => some 3
  | .writeCranes _ _ => some 3
  | .writePaths _ _ _ => some 3
  | .writeProfiles _ _ => some 3
  | .writeReefers _ _ => some 3
  | .writeCoverage _ => some 3
  | .clearSettings _ _ => some 4
  | .clearManagers _ _ => some 4
  | .clearCells _ _ => some 4
  | .clearGeometry _ _ => some 4
  | .clearBearers _ _ => some 4
  | .clearCranes _ _ => some 4
  | .clearPaths _ _ => some 4
  | .clearProfiles _ _ => some 4
  | .clearReefers _ _ => some 4
  | .clearCoverage _ _ => some 4
  | .commitPaths _ _ => some 5
  | .craneHold _ => some 6
  | .statisticsRead _ _ _ => some 7
  | .statisticsClear => some 8
  | .captureArm _ => some 9
  | .captureStop => some 10
  | .captureRead _ _ => some 11
  | .captureClearHits => some 12
  | .restart => some 13
  | .badCommand c => some c.code
  | .coldReset => none
  | .frameArrival _ _ _ => none
  | .transmissionCompletion _ => none
  | .linkLoss _ _ => none
  | .linkGain _ => none
  | .deadlineExpiry _ _ => none
  | .releaseExpiry _ => none
  | .holdOrderTimeExpiry _ => none
  | .overlapExpiry _ => none
  | .ageDeadlineExpiry _ => none
  | .staleDeadlineExpiry _ => none
  | .lostDeadlineExpiry _ => none
  | .summaryTimerExpiry => none
  | .frameStep => none
  | .pacingDeadlineExpiry => none

/-- The size of the result data a management command asks for, from its arguments alone (R184, R197). -/
def resultSize : Instr → Nat
  | .identify => 20
  | .readEntries table _ count => readSize table.toNat count
  | .statisticsRead group _ count => groupSize group.toNat count
  | .captureRead _ count => 12 + 16 * count
  | _ => 0

/-- No request is being executed, so that a management command is judged by its owner alone (log entry 7). -/
def State.alone (s : State) : Prop := s.endpoint.executing = none

/-- The state with a request being executed, or none. -/
def State.withExecuting (s : State) (e : Option Execution) : State :=
  { s with endpoint := { s.endpoint with executing := e } }

/-- The state that shows a result of code, result code and value, without data. -/
def State.answered (s : State) (code : Byte) (r : ResultCode) (v : BitVec 32) : State :=
  showAnswer { code := code, result := r, value := v, data := [] } s

/-- A command with this owner's result, alone: the state the owner leaves, showing the result without data and
with the value 0 (log entry 24). -/
def State.ruled (s : State) (code : Byte) (r : ResultCode) : State := s.answered code r 0

/-- A link's bit in a result value that holds a crane mask (R62, R81). -/
def maskBit (v : BitVec 32) (l : Link) : Bool := v.getLsbD l.val

/-! ### Layouts (R192, R198) -/

/-- A number in some bytes, the most significant first, cut to them (R192; log entry 21). -/
def bigEndian (size n : Nat) : List Byte := (List.range size).map fun i => BitVec.ofNat 8 (n / 256 ^ (size - 1 - i))

/-- The bits of a flags field, the first being bit 0 (R192). -/
def flagBits (bits : List Bool) : Nat := (bits.zipIdx.map fun b => if b.1 then 2 ^ b.2 else 0).sum

/-- A temperature in two bytes, −32,768 when unset (R192). -/
def tempBytes (t : Option Int) : List Byte :=
  bigEndian 2 (match t with
    | none => 32768
    | some t => (BitVec.ofInt 16 t).toNat)

/-- A deadline in four bytes, 0 when unarmed (R192). -/
def timeBytes (t : Option QuayTime) : List Byte :=
  bigEndian 4 (match t with
    | none => 0
    | some t => t.toNat)

/-- A sequence in two bytes, 0 when none (R192). -/
def sequenceBytes (q : Option Sequence) : List Byte :=
  bigEndian 2 (match q with
    | none => 0
    | some q => q.toNat)

/-- A cell, a segment or an effective class in one byte, 255 for NONE (R192, R197). -/
def placeByte {n : Nat} (p : Option (Fin n)) : List Byte :=
  bigEndian 1 (match p with
    | none => 255
    | some p => p.val)

/-- A list of cells: its count, and its places in order, 255 in each unused one (R198). -/
def cellBytes (places : Nat) (cells : List Cell) : List Byte :=
  bigEndian 1 cells.length ++ (List.range places).flatMap fun i => placeByte cells[i]?

/-- The fields of a record that starts at an offset stand at their own offsets in it. -/
def fieldsAt (data : List Byte) (start : Nat) (fields : List (Nat × List Byte)) : Prop :=
  ∀ f ∈ fields, bytesAt data (start + f.1) f.2.length = f.2

/-- Some bytes are a record of a size with its fields at their offsets. -/
def laidOut (data : List Byte) (size : Nat) (fields : List (Nat × List Byte)) : Prop :=
  data.length = size ∧ fieldsAt data 0 fields

/-- A frame the part composes: its addresses and EtherType, and a data field of some content, padded with zero bytes to
46 (R192, R195). -/
def composed (f : Frame) (dst src : Address) (etherType : EtherType) (content : Nat) : Prop :=
  f.dst = dst ∧ f.src = src ∧ f.etherType = etherType ∧ f.data.length = max 46 content ∧
  ∀ b ∈ f.data.drop content, b = 0

/-- A flag in one byte (R198). -/
def flagByte (b : Bool) : List Byte := bigEndian 1 (if b then 1 else 0)

/-- A CELLS entry, 6 bytes (R198). -/
def cellLayout (c : CellEntry) : List (Nat × List Byte) :=
  [(0, flagByte c.present), (1, bigEndian 1 c.quayPort.val), (2, bigEndian 2 c.label.toNat), (4, flagByte c.portUp),
    (5, bigEndian 1 0)]

/-- The kind code of a treatment (R192), its segment, its field at offset 7 and its absorb flag (R198). -/
def treatmentFields : Treatment → Nat × Option Segment × Nat × Bool
  | .absent => (0, none, 0, false)
  | .general g => (1, g, 0, false)
  | .crane l => (2, none, l.val, false)
  | .reefer i absorb => (3, none, i.val, absorb)
  | .redirect t => (4, none, t.toNat, false)

/-- A BEARERS entry, 32 bytes (R198). -/
def descriptorLayout (d : Descriptor) : List (Nat × List Byte) :=
  let t := treatmentFields d.treatment
  [(0, bigEndian 1 t.1), (1, bigEndian 1 (d.cls.val + flagBits [false, false, d.coarse, d.demote, t.2.2.2])),
    (2, bigEndian 2 d.rate), (4, bigEndian 1 d.burst), (5, placeByte d.homeCell), (6, placeByte t.2.1),
    (7, bigEndian 2 t.2.2.1), (9, bigEndian 1 0), (10, bigEndian 1 (flagBits [d.touched])), (11, bigEndian 1 0),
    (12, bigEndian 4 d.level), (16, bigEndian 4 d.stamp.toNat), (20, bigEndian 4 d.framesPassed.toNat),
    (24, bigEndian 4 d.bytesPassed.toNat), (28, bigEndian 4 d.framesPoliced.toNat)]

/-- The eleven counters of a crane link, 22 bytes: the nine of R71 in the order of its table, path changes, no path
(R198). -/
def craneCountLayout (c : CraneCounts) : List (Nat × List Byte) :=
  [(0, bigEndian 2 c.duplicates.toNat), (2, bigEndian 2 c.late.toNat), (4, bigEndian 2 c.gapFrames.toNat),
    (6, bigEndian 2 c.controlExcess.toNat), (8, bigEndian 2 c.strayFrames.toNat),
    (10, bigEndian 2 c.holdsEntered.toNat), (12, bigEndian 2 c.holdsSent.toNat),
    (14, bigEndian 2 c.holdsDeferred.toNat), (16, bigEndian 2 c.tokensIgnored.toNat),
    (18, bigEndian 2 c.pathChanges.toNat), (20, bigEndian 2 c.noPath.toNat)]

/-- The configuration part of a CRANES entry, 86 bytes (R198). -/
def craneConfigLayout (c : CraneConfig) : List (Nat × List Byte) :=
  [(0, flagByte c.enable), (1, bigEndian 1 c.threshold), (2, bigEndian 2 c.bearer.toNat), (4, bigEndian 2 c.period),
    (6, bigEndian 2 c.jitter), (8, bigEndian 1 c.recovery), (9, bigEndian 1 c.template.length),
    (10, bigEndian 2 c.overlap), (12, bigEndian 2 c.window), (14, bigEndian 2 c.tokenA.toNat),
    (16, bigEndian 2 c.tokenB.toNat), (18, bigEndian 1 c.degradedLevel), (19, bigEndian 1 c.holdLevel),
    (20, bigEndian 1 c.releasedLevel), (21, bigEndian 1 c.pathPoorLevel), (22, c.template),
    (22 + c.template.length, List.replicate (64 - c.template.length) 0)]

/-- The fields of a CRANES entry from offset 86 to its counters (R198). -/
def craneStateLayout (k : CraneLink) : List (Nat × List Byte) :=
  [(86, bigEndian 1 (craneStateCode k.state)), (87, bigEndian 1 k.missed), (88, bigEndian 1 k.streak),
    (89, bigEndian 1 (holdReasonCode k.reason)), (90, placeByte k.segment), (91, bigEndian 1 (boomCode k.boom)),
    (92, bigEndian 2 (flagBits [k.upDeadline.isSome, k.downDeadline.isSome, k.upAlive, k.upSeq.isSome,
      k.downSeq.isSome, k.lastSent.isSome, k.releaseExpiry.isSome, k.nextHold.isSome, k.overlapExpiry.isSome,
      k.pathPoor, k.commitPending, k.applyNow])),
    (94, timeBytes k.upDeadline), (98, timeBytes k.downDeadline), (102, sequenceBytes k.upSeq),
    (104, sequenceBytes k.downSeq), (106, sequenceBytes k.lastSent), (108, bigEndian 2 k.holdCounter.toNat),
    (110, timeBytes k.releaseExpiry), (114, timeBytes k.nextHold), (118, timeBytes k.overlapExpiry),
    (122, cellBytes 2 k.resolved), (125, cellBytes 2 k.previous),
    (128, cellBytes 4 (k.resolved ++ k.previous.filter fun c => !k.resolved.contains c)), (133, bigEndian 1 0)]

/-- A CRANES entry, 192 bytes (R198). -/
def craneLayout (k : CraneLink) : List (Nat × List Byte) :=
  craneConfigLayout k.config ++ craneStateLayout k ++
    (craneCountLayout k.counts).map (fun f => (134 + f.1, f.2)) ++ [(156, List.replicate 36 0)]

/-- A PROFILES entry, 24 bytes (R198). -/
def profileLayout (p : Profile) : List (Nat × List Byte) :=
  [(0, bigEndian 1 p.highMargin), (1, bigEndian 1 p.lowMargin), (2, bigEndian 1 p.hysteresis),
    (3, bigEndian 1 p.spikeStep), (4, bigEndian 1 p.band), (5, bigEndian 1 p.reportDelta),
    (6, bigEndian 2 p.staleTime), (8, bigEndian 4 p.lostTime), (12, bigEndian 1 (edgeCode p.highEdges)),
    (13, bigEndian 1 (edgeCode p.lowEdges)), (14, bigEndian 1 (edgeCode p.powerEdges)),
    (15, bigEndian 1 (edgeCode p.alarmEdges)), (16, bigEndian 1 (edgeCode p.staleEdges)),
    (17, bigEndian 1 p.highLevel), (18, bigEndian 1 p.lowLevel), (19, bigEndian 1 p.powerLevel),
    (20, bigEndian 1 p.alarmLevel), (21, bigEndian 1 p.staleLevel), (22, bigEndian 2 0)]

/-- The configuration part of a REEFERS entry, 14 bytes (R198). -/
def reeferConfigLayout (c : ReeferConfig) : List (Nat × List Byte) :=
  [(0, flagByte c.registered), (1, c.mark), (12, bigEndian 1 c.profile.val), (13, placeByte c.segment)]

/-- The fields of a REEFERS entry from offset 14 on (R198); a last report counter of none as 0 (log entry 26). -/
def reeferRecordLayout (r : ReeferRecord) : List (Nat × List Byte) :=
  [(14, bigEndian 1 (freshnessCode r.freshness)), (15, bigEndian 1 (powerCode r.power)), (16, tempBytes r.confirmed),
    (18, tempBytes r.candidate), (20, bigEndian 1 r.candidateCount),
    (21, bigEndian 1 (flagBits [r.high, r.low, r.powerCheck, r.alarmCheck, r.rangeFlag, r.changed])),
    (22, bigEndian 1 (flagBits [r.lastCounter.isSome, r.stale.isSome, r.lost.isSome])),
    (23, bigEndian 1 (r.lastCounter.getD 0).toNat), (24, tempBytes r.returnTemp), (26, tempBytes r.setpoint),
    (28, tempBytes r.summarised), (30, bigEndian 1 r.alarms.length), (31, r.alarms),
    (31 + r.alarms.length, List.replicate (4 - r.alarms.length) 0), (35, bigEndian 1 0), (36, bigEndian 4 r.excursion),
    (40, bigEndian 4 r.lastTime.toNat), (44, timeBytes r.stale), (48, timeBytes r.lost),
    (52, bigEndian 2 r.mismatches.toNat), (54, bigEndian 2 r.duplicates.toNat), (56, List.replicate 8 0)]

/-- A REEFERS entry, 64 bytes (R198). -/
def reeferLayout (v : ReeferSlot) : List (Nat × List Byte) := reeferConfigLayout v.config ++ reeferRecordLayout v.record

/-- A COVERAGE entry, 16 bytes (R198). -/
def coverLayout (e : CoverEntry) : List (Nat × List Byte) :=
  [(0, bigEndian 1 (coverCode e.state)), (1, bigEndian 1 (flagBits [e.age.isSome])), (2, bigEndian 2 e.estimate),
    (4, bigEndian 1 e.count), (5, bigEndian 3 0), (8, bigEndian 4 e.lastTime.toNat), (12, timeBytes e.age)]

/-- The fields of a port in the PORTS group, 24 bytes (R198). -/
def portLayout (s : State) (p : Port) : List (Nat × List Byte) :=
  let a := s.arrivals p
  let v := s.store.port p
  [(0, bigEndian 4 a.framesReceived.toNat), (4, bigEndian 2 a.foreign.toNat), (6, bigEndian 2 a.malformed.toNat),
    (8, bigEndian 2 v.receiveErrors.toNat), (10, bigEndian 2 v.linkLosses.toNat), (12, bigEndian 4 v.framesSent.toNat),
    (16, bigEndian 4 v.bytesSent.toNat), (20, flagByte v.up), (21, bigEndian 3 0)]

/-- The fields of a queue in the QUEUES group, 24 bytes (R198). -/
def queueLayout (s : State) (p : Port) (c : Class) : List (Nat × List Byte) :=
  let q := s.store.queue p c
  [(0, bigEndian 4 q.admitted.toNat), (4, bigEndian 4 q.fullRefusals.toNat), (8, bigEndian 4 q.poolRefusals.toNat),
    (12, bigEndian 4 q.linkDownRefusals.toNat), (16, bigEndian 4 q.flushed.toNat), (20, bigEndian 2 q.entries.length),
    (22, bigEndian 2 (s.queueLimit p c))]

/-- The fields of a descriptor in the BEARERS group, 12 bytes (R198). -/
def bearerCountLayout (d : Descriptor) : List (Nat × List Byte) :=
  [(0, bigEndian 4 d.framesPassed.toNat), (4, bigEndian 4 d.bytesPassed.toNat),
    (8, bigEndian 4 d.framesPoliced.toNat)]

/-- The number of coverage entries in a state (R109). -/
def State.coverNumber (s : State) (c : CoverState) : Nat :=
  ((List.range 2048).filter fun i => decide ((s.cover i).state = c)).length

/-- The COVERAGE group, 28 bytes (R198). -/
def coverageLayout (s : State) : List (Nat × List Byte) :=
  let m := s.coverage
  [(0, bigEndian 4 m.taken.toNat), (4, bigEndian 4 m.skipped.toNat), (8, bigEndian 4 m.shadowed.toNat),
    (12, bigEndian 4 m.discarded.toNat), (16, bigEndian 2 m.holesSet.toNat), (18, bigEndian 2 m.holesCleared.toNat),
    (20, bigEndian 2 m.aged.toNat), (22, bigEndian 2 (s.coverNumber .unknown)),
    (24, bigEndian 2 (s.coverNumber .good)), (26, bigEndian 2 (s.coverNumber .hole))]

/-- The number of registered slots in a freshness state (R136). -/
def State.freshNumber (s : State) (f : Freshness) : Nat :=
  ((List.finRange 2048).filter fun i =>
    decide ((s.slot i).config.registered = true ∧ (s.slot i).record.freshness = f)).length

/-- The REEFERS group, 28 bytes (R198). -/
def registryLayout (s : State) : List (Nat × List Byte) :=
  let g := s.registry
  [(0, bigEndian 4 g.taken.toNat), (4, bigEndian 4 g.unregistered.toNat), (8, bigEndian 4 g.mismatched.toNat),
    (12, bigEndian 4 g.repeated.toNat), (16, bigEndian 4 g.accepted.toNat), (20, bigEndian 2 (s.freshNumber .never)),
    (22, bigEndian 2 (s.freshNumber .fresh)), (24, bigEndian 2 (s.freshNumber .stale)),
    (26, bigEndian 2 (s.freshNumber .lost))]

/-- The SUMMARY group, 32 bytes (R198). -/
def summaryLayout (s : State) : List (Nat × List Byte) :=
  let b := s.summary
  [(0, bigEndian 4 b.framesSent.toNat), (4, bigEndian 4 b.recordsSent.toNat), (8, bigEndian 2 b.framesRefused.toNat),
    (10, bigEndian 2 b.passesCompleted.toNat), (12, bigEndian 2 b.passesDeferred.toNat),
    (14, bigEndian 2 b.overruns.toNat), (16, bigEndian 4 s.registry.absorbed.toNat),
    (20, bigEndian 2 s.registry.changeList.length),
    (22, bigEndian 2 ((s.registry.changeList.head?.map Fin.val).getD 0)),
    (24, bigEndian 2 b.counter.toNat), (26, flagByte b.passing),
    (27, bigEndian 1 (flagBits [!s.registry.changeList.isEmpty])), (28, bigEndian 4 b.timer.toNat)]

/-- The NOTICES group, 32 bytes, for a lowest queued level (R198). -/
def noticeGroupLayout (u : NoticeUnit) (low : Nat) : List (Nat × List Byte) :=
  [(0, bigEndian 2 u.suppressed.crane.toNat), (2, bigEndian 2 u.suppressed.coverage.toNat),
    (4, bigEndian 2 u.suppressed.reefer.toNat), (6, bigEndian 2 u.suppressed.capture.toNat),
    (8, bigEndian 2 u.suppressed.port.toNat), (10, bigEndian 2 u.lost.toNat), (12, bigEndian 4 u.framesSent.toNat),
    (16, bigEndian 4 u.noticesSent.toNat), (20, bigEndian 2 u.framesRefused.toNat), (22, bigEndian 1 u.queue.length),
    (23, bigEndian 1 low), (24, flagByte u.pacing.isSome), (25, bigEndian 1 (flagBits [u.pacing.isSome])),
    (26, bigEndian 2 u.counter.toNat), (28, timeBytes u.pacing)]

/-- The CAPTURE group, 20 bytes (R198). -/
def captureGroupLayout (u : CaptureUnit) : List (Nat × List Byte) :=
  [(0, bigEndian 4 u.matchesA.toNat), (4, bigEndian 4 u.matchesB.toNat), (8, bigEndian 4 u.recorded.toNat),
    (12, bigEndian 2 u.triggers.toNat), (14, bigEndian 1 (captureStateCode u.state)),
    (15, bigEndian 1 (flagBits [u.hitA, u.hitB])), (16, bigEndian 2 u.buffer.length), (18, bigEndian 2 0)]

/-- The MANAGEMENT group, 12 bytes (R198). -/
def managementLayout (e : Endpoint) : List (Nat × List Byte) :=
  [(0, bigEndian 4 e.executed.toNat), (4, bigEndian 2 e.rejected.toNat), (6, bigEndian 2 e.malformed.toNat),
    (8, bigEndian 2 e.overrun.toNat), (10, bigEndian 2 e.repliesLost.toNat)]

/-- The status of a Capture Read that returns some entries, 12 bytes (R197). -/
def captureStatusLayout (u : CaptureUnit) (returned : Nat) : List (Nat × List Byte) :=
  [(0, bigEndian 1 (captureStateCode u.state)), (1, bigEndian 1 (captureModeCode u.config.mode)),
    (2, bigEndian 1 (flagBits [u.hitA, u.hitB])), (3, bigEndian 1 returned), (4, bigEndian 2 u.buffer.length),
    (6, bigEndian 2 u.triggerCount), (8, bigEndian 2 u.traceCount), (10, bigEndian 1 u.postCount), (11, bigEndian 1 0)]

/-- A capture entry, 16 bytes (R197). -/
def captureEntryLayout (e : CaptureEntry) : List (Nat × List Byte) :=
  [(0, bigEndian 4 e.time.toNat), (4, bigEndian 1 (portNumber e.port)), (5, bigEndian 1 (directionCode e.direction)),
    (6, bigEndian 1 (flagBits [e.identity.isSome])),
    (7, placeByte e.cls), (8, bigEndian 2 ((e.identity.map fun i => i.1.toNat).getD 0)),
    (10, sequenceBytes (e.identity.map Prod.snd)), (12, bigEndian 2 e.size),
    (14, bigEndian 1 (dispositionCode e.disposition)), (15, bigEndian 1 (flagBits [e.matchedA, e.matchedB]))]

/-- A summary record, 27 bytes and its alarm codes (R194). -/
def summaryRecordLayout (i : Slot) (v : ReeferSlot) : List (Nat × List Byte) :=
  let r := v.record
  [(0, bigEndian 2 i.val), (2, v.config.mark), (13, tempBytes r.confirmed), (15, tempBytes r.returnTemp),
    (17, tempBytes r.setpoint), (19, bigEndian 1 (powerCode r.power)),
    (20, bigEndian 1 (flagBits [r.high, r.low, r.powerCheck, r.alarmCheck, r.rangeFlag])),
    (21, bigEndian 1 (freshnessCode r.freshness)), (22, bigEndian 4 (r.excursion / 600)),
    (26, bigEndian 1 r.alarms.length), (27, r.alarms)]

/-- A notice record, 18 bytes (R194). -/
def noticeLayout (n : Notice) : List (Nat × List Byte) :=
  [(0, bigEndian 1 (sourceKindCode (eventKind n.event))), (1, bigEndian 1 (eventCode n.event)),
    (2, bigEndian 2 n.index), (4, bigEndian 1 n.level), (5, bigEndian 1 (flagBits [n.data.isSome])),
    (6, bigEndian 2 (n.data.getD 0).toNat),
    (8, bigEndian 4 n.time.toNat), (12, bigEndian 6 0)]

/-- A command's result part, 8 bytes (R196). -/
def resultLayout (a : Answer) : List (Nat × List Byte) :=
  [(0, [a.code]), (1, bigEndian 1 (resultCode a.result)), (2, bigEndian 2 0), (4, bigEndian 4 a.value.toNat)]

/-! ### Deadlines -/

/-- The deadline whose expiry a command is, if it is armed; the summary timer always is (R53, R63, R67, R89, R104, R129,
R130, R140, R157). -/
def State.deadlineOf (s : State) : Instr → Option QuayTime
  | .deadlineExpiry l .up => (s.link l).upDeadline
  | .deadlineExpiry l .down => (s.link l).downDeadline
  | .releaseExpiry l => (s.link l).releaseExpiry
  | .holdOrderTimeExpiry l => (s.link l).nextHold
  | .overlapExpiry l => (s.link l).overlapExpiry
  | .ageDeadlineExpiry i => (s.cover i.val).age
  | .staleDeadlineExpiry i => (s.slot i).record.stale
  | .lostDeadlineExpiry i => (s.slot i).record.lost
  | .summaryTimerExpiry => some s.summary.timer
  | .pacingDeadlineExpiry => s.notices.pacing
  | _ => none

/-! ### Frames as the Capture Unit sees them -/

/-- The presentation of a frame with nothing read from it but its size: foreign, management, or too short for a
bearer header (R13, R166). -/
def plainVerdict (p : Port) (f : Frame) (d : Disposition) : Verdict :=
  { port := p, direction := none, identity := none, size := f.data.length + 18, cls := none, kind := .none
    craneState := none, disposition := d }

/-- The presentation of a bearer frame whose header has been read (R13, R166). -/
def bearerVerdict (p : Port) (f : Frame) (kind : CaptureKind) (cls : Option Class) (d : Disposition) : Verdict :=
  { port := p, direction := (readHeader f.data).direction
    identity := some ((readHeader f.data).bearer, (readHeader f.data).sequence), size := f.data.length + 18, cls := cls
    kind := kind, craneState := none, disposition := d }

/-- The port has link and the frame is a bearer frame, with a right check sequence (R1, R24). -/
def State.takesBearer (s : State) (p : Port) (f : Frame) : Prop :=
  (s.store.port p).up = true ∧ f.etherType = s.bearerType

/-- The tests of R3. -/
def headerFaulty (p : Port) (f : Frame) : Prop :=
  2048 < f.data.length + 18 ∨ f.data.length < 10 ∨ (readHeader f.data).version ≠ 1 ∨
  (readHeader f.data).direction = none ∨ ((readHeader f.data).direction = some .up ∧ p = .y) ∨
  ((readHeader f.data).direction = some .down ∧ p ≠ .y) ∨ 1900 < (readHeader f.data).payloadLength

/-- The required length of R4. -/
def neededLength (f : Frame) : Nat :=
  10 + (readHeader f.data).payloadLength +
    (if (readHeader f.data).trailer then 2 + 2 * (byteAt f.data (11 + (readHeader f.data).payloadLength)).toNat else 0)

/-- The cases of R4. -/
def lengthFaulty (f : Frame) : Prop :=
  ((readHeader f.data).trailer = true ∧ f.data.length < 12 + (readHeader f.data).payloadLength) ∨
  ((readHeader f.data).trailer = true ∧ 4 < (byteAt f.data (11 + (readHeader f.data).payloadLength)).toNat) ∨
  (f.data.length ≠ neededLength f ∧ ¬(neededLength f < 46 ∧ f.data.length = 46))

/-- The payload of a frame with a governing treatment and a direction lacks its record (R7). -/
def recordMissing (t : Treatment) (dir : Direction) (payload : List Byte) : Prop :=
  (∃ l, t = .crane l ∧ payload.length < controlSize payload) ∨
  (∃ i a, t = .reefer i a ∧ dir = .up ∧ payload.length < reportSize payload)

/-- The class a descriptor gives a frame that requests one, before the policer (R8). -/
def classGiven (d : Descriptor) (requested : Class) : Class :=
  if ∃ l, d.treatment = .crane l then 0 else max requested d.cls

/-- An uplink frame that passed, offered to the yard port queue of its effective class and given the disposition of the
answer, with the crane state recorded for it (R36, R52). -/
def sentUp (r : Passed) (crane : Option CraneState) (s : State) : State :=
  let a := s.offer .y r.cls none (.forwarded (r.result crane)) r.frame
  present (r.verdict crane (dispositionOf a.1)) a.2

/-- A downlink frame that passed, offered on one cell in its effective class (R30, R36). -/
def sentDown (r : Passed) (crane : Option CraneState) (origin : Origin) (c : Cell) (s : State) : State :=
  let a := s.offer (quayPort (s.cell c).quayPort) r.cls (some c) origin r.frame
  present (r.verdict crane (dispositionOf a.1)) a.2

/-- A downlink frame that passed and finds no cell (R30). -/
def sentNowhere (r : Passed) (crane : Option CraneState) (s : State) : State :=
  present (r.verdict crane .dropNoCell) { s with store := { s.store with noCell := s.store.noCell + 1 } }

/-- The header of a frame names a cell. -/
def namesCell (r : Passed) (c : Cell) : Prop := r.header.cell.toNat = c.val

/-- A sequence is accepted after the last accepted one, with a gap (R52). -/
def sequenceAccepted (last : Option Sequence) (q : Sequence) (gap : Nat) : Prop :=
  (last = none ∧ gap = 0) ∨
  ∃ b, last = some b ∧ 1 ≤ (q - b).toNat ∧ (q - b).toNat ≤ 32767 ∧ gap = (q - b).toNat - 1

/-- The configuration fields of a Write Entry on CRANES that are BAD_VALUE whatever the rest of the state (R46). -/
def craneFieldsFaulty (f : CraneFields) : Prop :=
  1 < f.enable.toNat ∨ 4095 < f.bearer.toNat ∨ f.period.toNat < 5 ∨ 500 < f.period.toNat ∨
  f.period.toNat < f.jitter.toNat ∨ f.threshold.toNat < 1 ∨ 15 < f.threshold.toNat ∨ f.recovery.toNat < 2 ∨
  30 < f.recovery.toNat ∨ 1000 < f.overlap.toNat ∨ f.window.toNat < 100 ∨ 10000 < f.window.toNat ∨
  f.tokenA = f.tokenB ∨ f.templateLength.toNat < 8 ∨ 64 < f.templateLength.toNat ∨ 7 < f.degradedLevel.toNat ∨
  7 < f.holdLevel.toNat ∨ 7 < f.releasedLevel.toNat ∨ 7 < f.pathPoorLevel.toNat ∨ (f.enable = 1 ∧ f.bearer = 0)

/-- The two configurations agree but for enable and the four notice levels (R47). -/
def sameButLevels (a b : CraneConfig) : Prop :=
  a = { b with
    enable := a.enable, degradedLevel := a.degradedLevel, holdLevel := a.holdLevel, releasedLevel := a.releasedLevel
    pathPoorLevel := a.pathPoorLevel }

/-- The configuration fields of a Write Entry on BEARERS that are BAD_VALUE whatever the rest of the state (R18). -/
def bearerFieldsFaulty (f : BearerFields) : Prop :=
  4 < f.kind.toNat ∨ 4095 < f.rate.toNat ∨ f.burst = 0 ∨ (31 < f.homeCell.toNat ∧ f.homeCell ≠ 255) ∨
  (63 < f.segment.toNat ∧ f.segment ≠ 255) ∨ (f.kind = 2 ∧ (f.cls ≠ 0 ∨ f.demote = true ∨ 15 < f.special.toNat)) ∨
  (f.kind = 3 ∧ 2047 < f.special.toNat) ∨ (f.kind = 4 ∧ 4095 < f.special.toNat) ∨ (f.kind ≠ 1 ∧ f.segment ≠ 255)

/-- No bit or byte of a Write Entry on BEARERS stands where its kind has no field (log entry 12). -/
def bearerFieldsClean (f : BearerFields) : Prop :=
  (f.kind = 0 ∨ f.kind = 1 → f.special = 0) ∧ (f.kind ≠ 3 → f.absorb = false)

/-- A descriptor that redirects where it may not (R18 step 2). -/
def State.misdirects (s : State) (index : Nat) (d : Descriptor) : Prop :=
  ∃ target, d.treatment = .redirect target ∧ (target = 0 ∨ target.toNat = index ∨
    (∀ g, (s.bearer target.toNat).treatment ≠ .general g) ∧
      ∀ i a, (s.bearer target.toNat).treatment ≠ .reefer i a)

/-- A treatment names a crane link that is not IDLE (R20). -/
def State.engaged (s : State) (t : Treatment) : Prop := ∃ l, t = .crane l ∧ (s.link l).state ≠ .idle

/-- The fields of a Write Entry on PROFILES that are BAD_VALUE (R113). -/
def profileFaulty (f : ProfileFields) : Prop :=
  f.highMargin.toNat < 1 ∨ 200 < f.highMargin.toNat ∨ f.lowMargin.toNat < 1 ∨ 200 < f.lowMargin.toNat ∨
  50 < f.hysteresis.toNat ∨ f.highMargin.toNat ≤ f.hysteresis.toNat ∨ f.lowMargin.toNat ≤ f.hysteresis.toNat ∨
  f.spikeStep.toNat < 1 ∨ 100 < f.spikeStep.toNat ∨ 200 < f.band.toNat ∨ f.reportDelta.toNat < 1 ∨
  100 < f.reportDelta.toNat ∨ f.staleTime.toNat < 60 ∨ 7200 < f.staleTime.toNat ∨ 86400 < f.lostTime.toNat ∨
  f.lostTime.toNat ≤ f.staleTime.toNat ∨ 3 < f.highEdges.toNat ∨ 3 < f.lowEdges.toNat ∨ 3 < f.powerEdges.toNat ∨
  3 < f.alarmEdges.toNat ∨ 3 < f.staleEdges.toNat ∨ 7 < f.highLevel.toNat ∨ 7 < f.lowLevel.toNat ∨
  7 < f.powerLevel.toNat ∨ 7 < f.alarmLevel.toNat ∨ 7 < f.staleLevel.toNat

/-- A character of a mark that is neither A to Z nor 0 to 9 (R134). -/
def markFaulty (mark : List Byte) : Prop :=
  ∃ b ∈ mark, ¬(0x41 ≤ b.toNat ∧ b.toNat ≤ 0x5A) ∧ ¬(0x30 ≤ b.toNat ∧ b.toNat ≤ 0x39)

/-- A matcher as carried is out of range (R165, R174). -/
def matcherFaulty (f : MatcherFields) : Prop :=
  1 < f.enable.toNat ∨ 2 < f.direction.toNat ∨ 6 < f.craneState.toNat ∨ 4095 < f.hi.toNat ∨ f.hi.toNat < f.lo.toNat

/-- No bit of a matcher's masks stands where there is nothing to name (log entry 12). -/
def matcherClean (f : MatcherFields) : Prop :=
  f.portMask.toNat < 32 ∧ f.kindMask.toNat < 64 ∧ f.dispositionMask.toNat < 32768

/-- A loaded matcher holds what was carried (R174, R196). -/
def matcherLoaded (f : MatcherFields) (m : Matcher) : Prop :=
  m.enable = decide (f.enable = 1) ∧ m.portMask = f.portMask.setWidth 5 ∧
  directionCode m.direction = f.direction.toNat ∧ m.lo = f.lo.toNat ∧ m.hi = f.hi.toNat ∧
  m.kindMask = f.kindMask.setWidth 6 ∧ m.dispositionMask = f.dispositionMask.setWidth 15 ∧
  (match m.craneState with
    | none => 0
    | some c => craneStateCode c) = f.craneState.toNat

/-- A capture configuration as carried is BAD_VALUE (R174). -/
def captureFaulty (f : CaptureFields) : Prop :=
  matcherFaulty f.a ∨ matcherFaulty f.b ∨ f.mode.toNat < 1 ∨ 6 < f.mode.toNat ∨ 1 < f.filter.toNat ∨ f.n = 0 ∨
  ((f.mode = 1 ∨ f.mode = 5 ∨ f.mode = 4) ∧ f.a.enable = 0) ∨
  ((f.mode = 2 ∨ f.mode = 3 ∨ f.mode = 4) ∧ f.b.enable = 0)

/-- An index lies in the range a command names. -/
abbrev inRange (first count i : Nat) : Prop := first ≤ i ∧ i < first + count

/-- A Clear Entries on a table of some entries is refused a count of 0 and a range beyond the last entry (R186). -/
def refusesRange (entries first count : Nat) (c : Instr) (s : State) : Prop :=
  (count = 0 → exec c s = .next (s.ruled 4 .badValue)) ∧
  (0 < count → entries < first + count → exec c s = .next (s.ruled 4 .badIndex))

/-- The index and the value of a Write Entry on SETTINGS (R187). -/
def settingOf : Instr → Option (Nat × Nat)
  | .writeSettings index v => some (index, v.toNat)
  | .bearerTypeWrite v => some (0, v.toNat)
  | .queueLimitWrite p c v => some (2 + 4 * portNumber p + c.val, v.toNat)
  | .noticeFloorWrite v => some (50, v.toNat)
  | .summaryIntervalWrite v => some (48, v.toNat)
  | .noticeDestinationWrite v => some (52, v.toNat)
  | _ => none

/-- The state that shows a result OK with data, its result value 0 (log entry 24). -/
def State.returned (s : State) (code : Byte) (data : List Byte) : State :=
  showAnswer { code := code, result := .ok, value := 0, data := data } s

/-- The edge select includes the enter edge, or the leave edge (R127). -/
def includesEdge (e edge : EdgeSelect) : Prop := e = edge ∨ e = .both

/-! ### The Frame Store (R31, R34) -/

/-- The store after the head entry of a queue has been selected and its transmission begun (R40, R42): the rest of the
queue stays, and the scheduler has a turn class and a credit. -/
def FrameStore.begun (st : FrameStore) (p : Port) (c : Class) (e : QueueEntry) (rest : List QueueEntry) (turn : Class)
    (credit : Nat) : FrameStore :=
  (st.setQueue p c { st.queue p c with entries := rest }).setPort p
    { st.port p with tx := some { entry := e, cls := c, left := frameSize e.frame + 20 }
                     turn := turn, credit := credit }

/-- The order in which the scheduler searches the classes 1-3 from a turn class (R40 step 3). -/
def searchOrder (turn : Class) : List Class :=
  match turn.val with
  | 1 => [2, 3, 1]
  | 2 => [3, 1, 2]
  | _ => [1, 2, 3]

/-- The blocks held by the resident frames of a port: those waiting and the one in transmission. -/
def FrameStore.portBlocks (st : FrameStore) (p : Port) : Nat :=
  (allClasses.map fun c => blocksHeld (st.queue p c).entries).sum +
    (match (st.port p).tx with
      | none => 0
      | some t => t.entry.blocks)

/-- The blocks held by all resident frames. -/
def FrameStore.held (st : FrameStore) : Nat := (allPorts.map st.portBlocks).sum

/-- The free blocks and the blocks of resident frames are the whole pool (R31). -/
def State.poolWhole (s : State) : Prop := s.store.free + s.store.held = Config.blocks

/-- Every setting is in its range, and no queue is longer than its limit (R34, R187). -/
def State.limitsKept (s : State) : Prop :=
  (∀ i < 54, (settingRange i).1 ≤ s.setting i ∧ s.setting i ≤ (settingRange i).2) ∧
  ∀ p c, (s.store.queue p c).entries.length ≤ s.queueLimit p c

/-- A cell's port up flag says that it is present and its port has link (R28); bay 255 is NONE (R76). -/
def State.flagsTrue (s : State) : Prop :=
  (∀ c : Cell, (s.cell c).portUp = ((s.cell c).present && (s.store.port (quayPort (s.cell c).quayPort)).up)) ∧
  s.paths.geometry.get 255 = none

/-! ### The Bearer Table (R10, 1.3) -/

/-- No bucket holds more than its burst (R10), and descriptor 0 is the null descriptor (1.3). -/
def State.bearersLegal (s : State) : Prop :=
  (∀ i, (s.bearer i).level ≤ (s.bearer i).burstBytes) ∧ s.bearer 0 = .cold

/-! ### Crane links (chapters 3 and 4) -/

/-- The link is held: HOLD or RELEASING. -/
def CraneLink.isHeld (k : CraneLink) : Prop := k.state = .hold ∨ k.state = .releasing

/-- The link is at work: LIVE or DEGRADED. -/
def CraneLink.isWorking (k : CraneLink) : Prop := k.state = .live ∨ k.state = .degraded

/-- A crane link record is legal: enable says whether it is supervised (3.1), commit pending stands in LIVE and
DEGRADED alone (R80), the hold reason, the release expiry and the next hold order time stand with their states (R58,
R63, R67 to R69), a held link has no downlink deadline and no overlap window (R58, R61), an IDLE link has no deadline
(R49), and an overlap window is open while its expiry is armed (R89). -/
def CraneLink.legal (k : CraneLink) : Prop :=
  (k.config.enable = true ↔ k.state ≠ .idle) ∧
  (k.commitPending = true → k.isWorking) ∧
  (k.reason ≠ .none ↔ k.isHeld) ∧
  (k.releaseExpiry.isSome = true ↔ k.state = .releasing) ∧
  (k.nextHold.isSome = true ↔ k.isHeld) ∧
  (k.isHeld → k.downDeadline = none ∧ k.previous = []) ∧
  (k.state = .idle → k.upDeadline = none ∧ k.downDeadline = none ∧ k.upAlive = false ∧ k.resolved = [] ∧
    k.previous = []) ∧
  (k.overlapExpiry.isSome = true ↔ k.previous ≠ [])

/-- Every crane link record is legal. -/
def State.linksLegal (s : State) : Prop := ∀ l, (s.link l).legal

/-- A link out of IDLE has its bearer's entry (R20, R46), copies of control frames wait in the quay ports' class 0
queues alone, and no received frame of a held link's bearer waits on a quay port, in whichever class (R59). -/
def State.heldQuiet (s : State) : Prop :=
  (∀ l, (s.link l).state ≠ .idle → (s.link l).config.bearer ≠ 0 ∧
    (s.bearer (s.link l).config.bearer.toNat).treatment = .crane l) ∧
  (∀ p c, ∀ e ∈ (s.store.queue p c).entries, ∀ r, e.origin = .control r → p ≠ .y ∧ c = 0) ∧
  (∀ l, (s.link l).isHeld → ∀ p c, p ≠ .y → ∀ e ∈ (s.store.queue p c).entries,
    ∀ r, e.origin = .control r ∨ e.origin = .forwarded r → r.bearer ≠ (s.link l).config.bearer)

/-! ### Coverage, registry, notices, capture, endpoint -/

/-- A coverage entry is legal: its estimate and count are in range, and without samples it is UNKNOWN and unarmed
(5.1, R98, R100, R104). -/
def CoverEntry.legal (e : CoverEntry) : Prop :=
  e.estimate ≤ 4080 ∧ e.count ≤ 255 ∧ (e.count = 0 → e.state = .unknown) ∧ (e.count = 0 ↔ e.age = none)

/-- Every coverage entry is legal. -/
def State.coverLegal (s : State) : Prop := ∀ i, (s.cover i).legal

/-- The change list holds no slot twice, and exactly the slots whose changed flag is set (R139); a slot that is
changed or has a deadline armed is registered, and no excursion is above its greatest value (R119, R120). -/
def State.listExact (s : State) : Prop :=
  s.registry.changeList.Nodup ∧
  (∀ i, i ∈ s.registry.changeList ↔ (s.slot i).record.changed = true) ∧
  (∀ i, (s.slot i).record.changed = true ∨ (s.slot i).record.stale ≠ none ∨ (s.slot i).record.lost ≠ none →
    (s.slot i).config.registered = true) ∧
  ∀ i, (s.slot i).record.excursion ≤ 4294967295

/-- The notice queue holds at most 64 notices, each of a level above the floor (R152 to R154). -/
def State.noticesLegal (s : State) : Prop :=
  s.notices.queue.length ≤ 64 ∧ ∀ n ∈ s.notices.queue, s.setting 50 < n.level

/-- The capture buffer holds at most 256 entries (R168), and the request list at most four requests (R181). -/
def State.buffersLegal (s : State) : Prop :=
  s.capture.buffer.length ≤ 256 ∧ s.endpoint.requests.length ≤ 4

/-- What a layout gives a number of places fits them (R198): a link's template and sets, a slot's mark and alarm codes;
and every command that waits, by itself or in a request, is well-formed. -/
def State.sizesLegal (s : State) : Prop :=
  (∀ l, (s.link l).config.template.length ≤ 64 ∧ (s.link l).resolved.length ≤ 2 ∧ (s.link l).previous.length ≤ 2) ∧
  (∀ i, (s.slot i).config.mark.length = 11 ∧ (s.slot i).record.alarms.length ≤ 4) ∧
  (∀ c ∈ s.pending, c.wellFormed = true) ∧
  (∀ q ∈ s.endpoint.requests, ∀ w ∈ q.commands, w.wellFormed = true) ∧
  ∀ e, s.endpoint.executing = some e → ∀ w ∈ e.request.commands, w.wellFormed = true

/-- Every table is in its canonical form. -/
def State.canonical (s : State) : Prop :=
  s.settings.wf = true ∧ s.classifier.bearers.wf = true ∧ s.classifier.cells.wf = true ∧
  s.classifier.counts.wf = true ∧ s.store.ports.wf = true ∧ s.store.queues.wf = true ∧ s.links.wf = true ∧
  s.paths.geometry.wf = true ∧ s.paths.staged.wf = true ∧ s.paths.active.wf = true ∧ s.coverage.entries.wf = true ∧
  s.registry.slots.wf = true ∧ s.registry.profiles.wf = true ∧ s.endpoint.managers.wf = true

end Sys2Proof.Machine
end

