-- ==== Sys2Proof/Certificates/Slice0/Obligations.lean ====
section
/-! DEFINITION. The statements for the provers, one proposition each. In the statements about a management command,
`s.alone` says that no request is around it (log entry 7); `CommandsInARequest` carries each of them over to a command
of a request. A result that carries no value is stated with the value 0, the model's choice (log entry 24). -/

open Sys2Proof Sys2Proof.Machine

/-! ### The queue of commands, the clock and the resets -/

/-- O1. A step takes the command at the front of the queue and executes it on the state with the rest of the queue. -/
def Obligations.StepRunsFrontCommand : Prop :=
  ∀ (c : Instr) (rest : List Instr) (s : State),
    step { s with pending := c :: rest } = exec c { s with pending := rest }

/-- O2. Every command answers a next state and leaves the queue of commands as it is. The queue, which COLD_RESET too
leaves, and an answer in states that no run reaches are the model's choices (log entries 1 and 19). -/
def Obligations.CommandLeavesQueue : Prop :=
  ∀ (c : Instr) (s : State), ∃ t, exec c s = .next t ∧ t.pending = s.pending

/-- O3. With no command waiting the part acts of itself, the model's choice (log entries 1 and 5): a pass in progress
queues its frame step, the next request begins, the next command of the executing request is queued, a due expiry is
queued, and otherwise line time moves on, quay time by one millisecond when it is full, and the transmissions that end
are queued to complete. The expiry queued is that of a deadline of the state that is armed and reached, and on a state
in canonical form there is one whenever some deadline is; the clock moves by the least of the byte times left to the
millisecond and of the transmissions in progress. -/
def Obligations.IdlePartActsOfItself : Prop :=
  ∀ s : State, s.pending = [] →
    (s.summary.passing = true → step s = .next { s with pending := [.frameStep] }) ∧
    (s.summary.passing = false →
      (∀ e c, s.endpoint.executing = some e → e.request.commands[e.results.length]? = some c →
        step s = .next { s with pending := [decodeCommand c] }) ∧
      (∀ q rest, s.endpoint.executing = none → s.endpoint.requests = q :: rest →
        step s = .next { s with endpoint := { s.endpoint with
          requests := rest, executing := some { request := q, results := [], stopped := false } } }) ∧
      (s.endpoint.executing = none → s.endpoint.requests = [] →
        (∀ i, s.dueExpiry = some i → step s = .next { s with pending := [i] }) ∧
        (s.dueExpiry = none → s.lineTime < 1250000 → ∃ t, step s = .next t ∧
          t = { s with
            quayTime := t.quayTime, lineTime := t.lineTime, pending := t.pending
            store := { s.store with ports := t.store.ports } } ∧
          ((t.quayTime = s.quayTime ∧ t.lineTime = s.lineTime + s.wait ∧ t.lineTime < 1250000) ∨
            (t.quayTime = s.quayTime + 1 ∧ t.lineTime = 0 ∧ s.lineTime + s.wait = 1250000)) ∧
          (∀ p, t.store.port p = { s.store.port p with
            tx := (s.store.port p).tx.map fun x => { x with left := x.left - s.wait } }) ∧
          t.pending.Nodup ∧ (∀ i, i ∈ t.pending ↔ ∃ p x, i = .transmissionCompletion p ∧
            (t.store.port p).tx = some x ∧ x.left = 0)))) ∧
    (s.canonical →
      (∀ i, s.dueExpiry = some i → ∃ d, s.deadlineOf i = some d ∧ reached s.quayTime d = true) ∧
      (s.dueExpiry = none ↔ ∀ i d, s.deadlineOf i = some d → reached s.quayTime d = false)) ∧
    s.wait ≤ 1250000 - s.lineTime ∧ (∀ p x, (s.store.port p).tx = some x → s.wait ≤ x.left) ∧
    (s.wait = 1250000 - s.lineTime ∨ ∃ p x, (s.store.port p).tx = some x ∧ s.wait = x.left)

/-- O4. The machine right after reset meets every invariant the other statements keep. -/
def Obligations.ResetMeetsInvariants : Prop :=
  State.reset.poolWhole ∧ State.reset.limitsKept ∧ State.reset.flagsTrue ∧ State.reset.bearersLegal ∧
  State.reset.linksLegal ∧ State.reset.heldQuiet ∧ State.reset.coverLegal ∧ State.reset.listExact ∧
  State.reset.noticesLegal ∧ State.reset.buffersLegal ∧ State.reset.sizesLegal ∧ State.reset.canonical

/-- O5. A cold reset returns every block to its cold values, every counter among them, and keeps the identity store
(R22, R44, R72, R74, R76, R78, R110, R137, R150, R162, R179, R187, R188, R191). That the queue of commands stays, the
line time and the result shown are the model's own (log entries 1, 5 and 7). -/
def Obligations.ColdResetGivesColdValues : Prop :=
  ∀ s : State, ∃ t, exec .coldReset s = .next t ∧
    t.identity = s.identity ∧ t.pending = s.pending ∧ t.quayTime = 0 ∧ t.lineTime = 0 ∧
    t.setting 0 = s.identity.defaultBearerEtherType.toNat ∧ t.setting 1 = 512 ∧
    (∀ p c, t.queueLimit p c = 128) ∧
    (∀ p, t.setting (weightIndex p 1) = 8 ∧ t.setting (weightIndex p 2) = 4 ∧ t.setting (weightIndex p 3) = 1) ∧
    ([37, 38, 39, 40, 41, 42, 43, 44, 45, 46, 47, 48, 49, 50, 51, 52, 53].map t.setting =
      [5, 3, 50, 16, 1280, 64, 3, 600, 4, 2, 3, 60, 0, 1, 100, 0, 4]) ∧
    (∀ i, t.bearer i = {
      treatment := .absent, cls := 0, rate := 0, coarse := false, burst := 1, demote := false, homeCell := none
      touched := false, level := 0, stamp := 0, framesPassed := 0, bytesPassed := 0, framesPoliced := 0 }) ∧
    (∀ c, t.cell c = { present := false, quayPort := 0, label := 0, portUp := false }) ∧
    (∀ p, t.arrivals p = { framesReceived := 0, foreign := 0, malformed := 0 }) ∧
    (∀ p, t.store.port p = {
      up := false, tx := none, turn := 3, credit := 0, receiveErrors := 0, linkLosses := 0, framesSent := 0
      bytesSent := 0 }) ∧
    (∀ p c, t.store.queue p c = {
      entries := [], admitted := 0, fullRefusals := 0, poolRefusals := 0, linkDownRefusals := 0, flushed := 0 }) ∧
    t.store.free = 16384 ∧ t.store.least = 16384 ∧ t.store.noCell = 0 ∧
    (∀ l, t.link l = {
      config := {
        enable := false, bearer := 0, period := 100, jitter := 0, threshold := 3, recovery := 10, overlap := 0
        window := 1000, tokenA := 0, tokenB := 1, template := [0, 0, 0, 0, 0, 0, 0, 0], degradedLevel := 3
        holdLevel := 6, releasedLevel := 4, pathPoorLevel := 3 }
      state := .idle, missed := 0, streak := 0, upDeadline := none, downDeadline := none, upAlive := false
      upSeq := none, downSeq := none, lastSent := none, segment := none, boom := .unknown, reason := .none
      releaseExpiry := none, holdCounter := 0, nextHold := none, resolved := [], previous := [], overlapExpiry := none
      pathPoor := false, commitPending := false, applyNow := false
      counts := {
        duplicates := 0, late := 0, gapFrames := 0, controlExcess := 0, strayFrames := 0, holdsEntered := 0
        holdsSent := 0, holdsDeferred := 0, tokensIgnored := 0, pathChanges := 0, noPath := 0 } }) ∧
    (∀ b, t.paths.geometry.get b = none) ∧
    (∀ i, t.paths.staged.get i = ⟨none, none⟩ ∧ t.paths.active.get i = ⟨none, none⟩) ∧
    (∀ i, t.cover i = { state := .unknown, estimate := 0, count := 0, lastTime := 0, age := none }) ∧
    t.coverage = {
      entries := t.coverage.entries, taken := 0, skipped := 0, shadowed := 0, discarded := 0, holesSet := 0
      holesCleared := 0, aged := 0 } ∧
    (∀ i, t.slot i = {
      config := {
        registered := false, mark := [0x41, 0x41, 0x41, 0x41, 0x30, 0x30, 0x30, 0x30, 0x30, 0x30, 0x30]
        profile := 0, segment := none }
      record := {
        freshness := .never, confirmed := none, candidate := none, candidateCount := 0, returnTemp := none
        setpoint := none, power := none, alarms := [], rangeFlag := false, high := false, low := false
        powerCheck := false, alarmCheck := false, excursion := 0, lastTime := 0, lastCounter := none, stale := none
        lost := none, summarised := none, changed := false, mismatches := 0, duplicates := 0 } }) ∧
    (∀ i, t.registry.profiles.get i = {
      highMargin := 30, lowMargin := 30, hysteresis := 10, spikeStep := 20, band := 20, reportDelta := 5
      staleTime := 900, lostTime := 3600, highEdges := .both, lowEdges := .both, powerEdges := .enter
      alarmEdges := .enter, staleEdges := .both, highLevel := 4, lowLevel := 4, powerLevel := 3, alarmLevel := 4
      staleLevel := 3 }) ∧
    t.registry = {
      slots := t.registry.slots, profiles := t.registry.profiles, changeList := [], taken := 0, unregistered := 0
      mismatched := 0, repeated := 0, accepted := 0, absorbed := 0 } ∧
    t.summary = {
      timer := 60000, passing := false, counter := 0, framesSent := 0, recordsSent := 0, framesRefused := 0
      passesCompleted := 0, passesDeferred := 0, overruns := 0 } ∧
    t.notices = {
      queue := [], pacing := none, counter := 0
      suppressed := { crane := 0, coverage := 0, reefer := 0, capture := 0, port := 0 }, lost := 0, framesSent := 0
      noticesSent := 0, framesRefused := 0 } ∧
    (let open' : Matcher := {
      enable := false, portMask := 0x1F, direction := none, kindMask := 0x3F, dispositionMask := 0x7FFF
      craneState := none, lo := 0, hi := 4095 }
    t.capture = {
      config := { a := open', b := open', mode := .countA, n := 1, post := 0, matchedOnly := false }
      state := .off, hitA := false, hitB := false, buffer := [], triggerCount := 0, postCount := 0, traceCount := 0
      matchesA := 0, matchesB := 0, recorded := 0, triggers := 0 }) ∧
    (∀ i, t.endpoint.managers.get i = 0) ∧
    t.endpoint = {
      managers := t.endpoint.managers, requests := [], executing := none, executed := 0, rejected := 0, malformed := 0
      overrun := 0, repliesLost := 0, answer := none }

/-! ### Ports, queues and the Frame Store -/

/-- O6. The three tests of an offer, in their order, and what each outcome does (R35), with the blocks a frame takes
(R31), the least free mark (R33) and the selection that follows (R40). A queue over its limit, which no run reaches,
refuses as a full one does: the model's choice (log entry 19). -/
def Obligations.OfferIsJudged : Prop :=
  ∀ (s : State) (p : Port) (c : Sys2Proof.Class) (cell : Option Cell) (o : Origin) (f : Frame),
    let sent := match cell with
      | none => f
      | some k => { f with data := f.data.set 2 (BitVec.ofNat 8 k.val) }
    let b := (sent.data.length + 18 + 127) / 128
    let q := s.store.queue p c
    let lacking : Prop := if c = 0 then s.store.free < b else s.store.free < b + s.setting 1
    ((s.store.port p).up = false → s.offer p c cell o f = (.refused .linkDown,
      { s with store := s.store.setQueue p c { q with linkDownRefusals := q.linkDownRefusals + 1 } })) ∧
    ((s.store.port p).up = true → s.queueLimit p c ≤ q.entries.length → s.offer p c cell o f = (.refused .queueFull,
      { s with store := s.store.setQueue p c { q with fullRefusals := q.fullRefusals + 1 } })) ∧
    ((s.store.port p).up = true → q.entries.length < s.queueLimit p c → lacking →
      s.offer p c cell o f = (.refused .pool,
        { s with store := s.store.setQueue p c { q with poolRefusals := q.poolRefusals + 1 } })) ∧
    ((s.store.port p).up = true → q.entries.length < s.queueLimit p c → ¬lacking →
      s.offer p c cell o f = (.admitted, { s with store :=
        (({ s.store with free := s.store.free - b, least := min s.store.least (s.store.free - b) } : FrameStore).setQueue
          p c { q with entries := q.entries ++ [{ frame := sent, blocks := b, origin := o }]
                       admitted := q.admitted + 1 }).select s.settings p }))

/-- O7. What the scheduler of a port selects (R40): class 0 first, then the turn class while it has credit, then the
first class of the search that holds an entry, which takes the turn with its weight; nothing on a port that is not
ready or has nothing waiting. -/
def Obligations.SchedulerSelects : Prop :=
  ∀ (st : FrameStore) (settings : Table Nat) (p : Port),
    ((st.port p).up = false ∨ (st.port p).tx ≠ none → st.select settings p = st) ∧
    ((st.port p).up = true → (st.port p).tx = none → (st.port p).turn ≠ 0 →
      (∀ e rest, (st.queue p 0).entries = e :: rest →
        st.select settings p = st.begun p 0 e rest (st.port p).turn (st.port p).credit) ∧
      ((st.queue p 0).entries = [] → 0 < (st.port p).credit → ∀ e rest,
        (st.queue p (st.port p).turn).entries = e :: rest →
        st.select settings p = st.begun p (st.port p).turn e rest (st.port p).turn ((st.port p).credit - 1)) ∧
      ((st.queue p 0).entries = [] → (st.port p).credit = 0 ∨ (st.queue p (st.port p).turn).entries = [] →
        ∀ before c after e rest, searchOrder (st.port p).turn = before ++ c :: after →
          (∀ d ∈ before, (st.queue p d).entries = []) → (st.queue p c).entries = e :: rest →
          st.select settings p = st.begun p c e rest c (settings.get (weightIndex p c) - 1)) ∧
      ((∀ c, (st.queue p c).entries = []) → st.select settings p = st))

/-- O8. A transmission that completes returns its blocks and is counted, and the scheduler selects again (R42). That
the completion comes whatever is left of the transmission, and does nothing on a port without one, is the model's
choice (log entry 5). -/
def Obligations.TransmissionCompletes : Prop :=
  ∀ (s : State) (p : Port),
    ((s.store.port p).tx = none → exec (.transmissionCompletion p) s = .next s) ∧
    (∀ tx, (s.store.port p).tx = some tx → ∃ d : FrameStore,
      exec (.transmissionCompletion p) s = .next { s with store := d.select s.settings p } ∧
      d.free = s.store.free + tx.entry.blocks ∧ d.least = s.store.least ∧ d.noCell = s.store.noCell ∧
      d.queues = s.store.queues ∧ (∀ q, q ≠ p → d.port q = s.store.port q) ∧
      d.port p = { s.store.port p with
        tx := none
        framesSent := (s.store.port p).framesSent + 1
        bytesSent := (s.store.port p).bytesSent + BitVec.ofNat 32 (tx.entry.frame.data.length + 18) })

/-- O9. A link loss flushes the port's traffic, resets its turn, clears its cells' port up flags and offers a
LINK_DOWN notice with the number of frames discarded; a link gain sets the port UP and the port up flags of its
present cells, and offers a LINK_UP notice (R25 to R27). On a port without link there is none to lose, on a port with
link none to gain, the model's choice (log entry 10). -/
def Obligations.LinkLossAndGain : Prop :=
  ∀ (s : State) (p : Port),
    (∀ r, (s.store.port p).up = false → exec (.linkLoss p r) s = .next s) ∧
    ((s.store.port p).up = true → exec (.linkGain p) s = .next s) ∧
    (∀ r, (s.store.port p).up = true → ∃ d : State,
      exec (.linkLoss p r) s = .next (d.notify .linkDown (portNumber p) (s.setting 37)
        (some (BitVec.ofNat 16 (min 65535 (((allClasses.map fun c => (s.store.queue p c).entries.length).sum) +
          (if (s.store.port p).tx = none then 0 else 1)))))) ∧
      d = { s with store := d.store, classifier := { s.classifier with cells := d.classifier.cells } } ∧
      d.store.port p = { s.store.port p with
        up := false, tx := none, turn := 3, credit := 0, linkLosses := bump16 (s.store.port p).linkLosses
        receiveErrors := if r then bump16 (s.store.port p).receiveErrors else (s.store.port p).receiveErrors } ∧
      (∀ q, q ≠ p → d.store.port q = s.store.port q ∧ ∀ c, d.store.queue q c = s.store.queue q c) ∧
      (∀ c, d.store.queue p c = { s.store.queue p c with
        entries := []
        flushed := (s.store.queue p c).flushed + BitVec.ofNat 32 ((s.store.queue p c).entries.length +
          (if ∃ tx, (s.store.port p).tx = some tx ∧ tx.cls = c then 1 else 0)) }) ∧
      d.store.free = s.store.free + s.store.portBlocks p ∧ d.store.least = s.store.least ∧
      d.store.noCell = s.store.noCell ∧
      (∀ c : Cell, d.cell c = if quayPort (s.cell c).quayPort = p then { s.cell c with portUp := false } else s.cell c)) ∧
    ((s.store.port p).up = false → ∃ d : State,
      exec (.linkGain p) s = .next (d.notify .linkUp (portNumber p) (s.setting 38) none) ∧
      d = { s with
        store := { s.store with ports := d.store.ports }
        classifier := { s.classifier with cells := d.classifier.cells } } ∧
      d.store.port p = { s.store.port p with up := true } ∧ (∀ q, q ≠ p → d.store.port q = s.store.port q) ∧
      (∀ c : Cell, d.cell c =
        if quayPort (s.cell c).quayPort = p then { s.cell c with portUp := (s.cell c).present } else s.cell c))

/-- O10. Free blocks and the blocks of resident frames make up the pool of 16,384 at all times (R31). -/
def Obligations.PoolStaysWhole : Prop :=
  ∀ s t : State, s.poolWhole → step s = .next t → t.poolWhole

/-- O11. Every setting stays in its range and no queue grows beyond its limit (R34, R187); a cell's port up flag
always says that the cell is present and its port has link (R28), and bay 255 stays NONE (R76). -/
def Obligations.LimitsAndFlagsStay : Prop :=
  (∀ s t : State, s.limitsKept → step s = .next t → t.limitsKept) ∧
  (∀ s t : State, s.flagsTrue → step s = .next t → t.flagsTrue)

/-- O12. Every table keeps its canonical form, so that equal tables are equal data: the model's own law. -/
def Obligations.TablesStayCanonical : Prop :=
  ∀ s t : State, s.canonical → step s = .next t → t.canonical

/-! ### Arriving frames -/

/-- O13. A port without link receives nothing and a wrong check sequence is counted (R24); any other frame that is no
bearer frame is counted as received and is foreign, malformed or MANAGEMENT by its EtherType, port and destination
(R1). -/
def Obligations.ArrivalSorting : Prop :=
  ∀ (s : State) (p : Port) (f : Frame),
    let a := s.arrivals p
    let foreign := s.setArrivals p { a with framesReceived := a.framesReceived + 1, foreign := bump16 a.foreign }
    let malformed := s.setArrivals p { a with framesReceived := a.framesReceived + 1, malformed := bump16 a.malformed }
    let received := s.setArrivals p { a with framesReceived := a.framesReceived + 1 }
    (∀ right, (s.store.port p).up = false → exec (.frameArrival p f right) s = .next s) ∧
    ((s.store.port p).up = true → exec (.frameArrival p f false) s = .next { s with
      store := s.store.setPort p
        { s.store.port p with receiveErrors := bump16 (s.store.port p).receiveErrors } }) ∧
    ((s.store.port p).up = true → f.etherType ≠ s.bearerType →
      (f.etherType ≠ s.identity.managementEtherType →
        exec (.frameArrival p f true) s = .next (present (plainVerdict p f .dropMalformed) foreign)) ∧
      (f.etherType = s.identity.managementEtherType →
        (p ≠ .y → exec (.frameArrival p f true) s = .next (present (plainVerdict p f .dropMalformed) malformed)) ∧
        (p = .y → f.dst ≠ s.identity.station →
          exec (.frameArrival p f true) s = .next (present (plainVerdict p f .dropMalformed) foreign)) ∧
        (p = .y → f.dst = s.identity.station → exec (.frameArrival p f true) s =
          .next (judgeRequest f (present (plainVerdict p f .management) received)))))

/-- O14. A management frame is judged on its source, its structure and the room in the request list, in this order,
and joins the list or is counted (R181, R182). -/
def Obligations.RequestsJudged : Prop :=
  ∀ (s : State) (f : Frame),
    let e := s.endpoint
    let permitted : Prop := (∀ i < 4, e.managers.get i = 0) ∨ ∃ i < 4, e.managers.get i = f.src ∧ f.src ≠ 0
    (¬permitted → judgeRequest f s = { s with endpoint := { e with rejected := bump16 e.rejected } }) ∧
    (permitted →
      (readRequest f = none → judgeRequest f s = { s with endpoint := { e with malformed := bump16 e.malformed } }) ∧
      (∀ q, readRequest f = some q → q.source = f.src ∧ 1 ≤ q.commands.length ∧ q.commands.length ≤ 32 ∧
        (4 ≤ e.requests.length → judgeRequest f s = { s with endpoint := { e with overrun := bump16 e.overrun } }) ∧
        (e.requests.length < 4 →
          judgeRequest f s = { s with endpoint := { e with requests := e.requests ++ [q] } })))

/-- O15. A request frame laid out as R196 and R197 say is read back with its tag, its source and every command's code,
carried length and arguments, whatever padding follows; a carried length below 4 is stepped over as 4 (R197). -/
def Obligations.RequestLayoutReadsBack : Prop :=
  ∀ (dst src : Address) (etherType : EtherType) (kind spare tag1 tag2 a b c : Byte) (commands : List WireCommand)
    (gaps : WireCommand → Byte) (padding : List Byte),
    1 ≤ commands.length → commands.length ≤ 32 → (∀ w ∈ commands, w.wellFormed = true) →
    readRequest {
      dst := dst, src := src, etherType := etherType
      data := [kind, spare, tag1, tag2, BitVec.ofNat 8 commands.length, a, b, c] ++
        (commands.flatMap fun w => [w.code, gaps w] ++ put16 w.carried.toNat ++ w.args) ++ padding } =
      some { tag := tag1 ++ tag2, source := src, commands := commands }

/-- O16. A bearer frame that meets a case of R3 or R4 is given DROP_MALFORMED, is counted as malformed, and changes
nothing else. -/
def Obligations.MalformedBearerFrames : Prop :=
  ∀ (s : State) (p : Port) (f : Frame), s.takesBearer p f → headerFaulty p f ∨ lengthFaulty f →
    exec (.frameArrival p f true) s = .next (present
      (if f.data.length < 10 then plainVerdict p f .dropMalformed else bearerVerdict p f .none none .dropMalformed)
      (s.setArrivals p { s.arrivals p with
        framesReceived := (s.arrivals p).framesReceived + 1, malformed := bump16 (s.arrivals p).malformed }))

/-- O17. The descriptor of a well-formed bearer frame: bearer 0, ABSENT and a redirection that R6 forbids are dropped;
otherwise the named descriptor, or the target of a redirection, governs, and each descriptor named is touched (R5,
R6). -/
def Obligations.DescriptorResolution : Prop :=
  ∀ (s : State) (p : Port) (f : Frame) (dir : Direction), s.takesBearer p f →
    ¬headerFaulty p f → ¬lengthFaulty f → (readHeader f.data).direction = some dir →
    let received := s.setArrivals p { s.arrivals p with framesReceived := (s.arrivals p).framesReceived + 1 }
    let i := (readHeader f.data).bearer.toNat
    let touched := received.setBearer i { s.bearer i with touched := true }
    (i = 0 → exec (.frameArrival p f true) s = .next (present (bearerVerdict p f .none none .dropNull) received)) ∧
    (i ≠ 0 →
      ((s.bearer i).treatment = .absent →
        exec (.frameArrival p f true) s = .next (present (bearerVerdict p f .absent none .dropAbsent) touched)) ∧
      ((∃ g, (s.bearer i).treatment = .general g) ∨ (∃ l, (s.bearer i).treatment = .crane l) ∨
        (∃ k a, (s.bearer i).treatment = .reefer k a) →
        exec (.frameArrival p f true) s = .next (govern p f (readHeader f.data) dir i touched)) ∧
      (∀ target, (s.bearer i).treatment = .redirect target →
        ((s.bearer target.toNat).treatment = .absent ∨ (∃ l, (s.bearer target.toNat).treatment = .crane l) ∨
          (∃ b, (s.bearer target.toNat).treatment = .redirect b) → exec (.frameArrival p f true) s =
            .next (present (bearerVerdict p f .redirect none .dropRedirectFault) touched)) ∧
        ((∃ g, (s.bearer target.toNat).treatment = .general g) ∨
          (∃ k a, (s.bearer target.toNat).treatment = .reefer k a) → exec (.frameArrival p f true) s =
            .next (govern p f (readHeader f.data) dir target.toNat
              (touched.setBearer target.toNat { s.bearer target.toNat with touched := true })))))

/-- O18. What a bucket does when a frame comes to it (R9), and the outcome of the frame (R10). A CRANE descriptor with
excess action DEMOTE, which no run reaches, drops: the model's choice (log entry 19). -/
def Obligations.BucketAtFrame : Prop :=
  ∀ (d : Descriptor) (now : QuayTime) (length : Nat),
    let burst := if d.coarse then d.burst * 65536 else d.burst * 1024
    let rate := if d.coarse then d.rate * 1000 else d.rate * 8
    let m := (now - d.stamp).toNat
    let level := if 2147483648 ≤ m then burst else min burst (d.level + rate * m)
    (d.rate = 0 → d.police now length = .conforms ∧ d.drawn now length = d) ∧
    (d.rate ≠ 0 →
      (length ≤ level → d.police now length = .conforms ∧
        d.drawn now length = { d with level := level - length, stamp := now }) ∧
      (level < length → d.drawn now length = { d with level := level, stamp := now } ∧
        ((∃ l, d.treatment = .crane l) ∨ d.demote = false → d.police now length = .dropped) ∧
        ((∀ l, d.treatment ≠ .crane l) → d.demote = true → d.police now length = .demoted)))

/-- O19. A frame whose governing descriptor is known: one without its record is malformed (R7); the descriptor's
bucket and counters move (R9 to R11); one in excess may be dropped, with a CRANE bearer's excess counted at its link
(R10); any other is handed on in its effective class with its classification result (R8, R13), to which the supervisor
adds the crane state (R52). -/
def Obligations.GovernedFrames : Prop :=
  ∀ (s : State) (p : Port) (f : Frame) (dir : Direction) (i : Nat),
    let h := readHeader f.data
    let d := s.bearer i
    let length := 10 + h.payloadLength
    let outcome := d.police s.quayTime length
    let after := { d.drawn s.quayTime length with
      framesPassed := if outcome = .dropped then d.framesPassed else d.framesPassed + 1
      bytesPassed := if outcome = .dropped then d.bytesPassed else d.bytesPassed + BitVec.ofNat 32 length
      framesPoliced := if outcome = .conforms then d.framesPoliced else d.framesPoliced + 1 }
    h.direction = some dir →
    (recordMissing d.treatment dir (bytesAt f.data 10 h.payloadLength) → govern p f h dir i s =
      present (bearerVerdict p f (kindOf d.treatment) none .dropMalformed)
        (s.setArrivals p { s.arrivals p with malformed := bump16 (s.arrivals p).malformed })) ∧
    (¬recordMissing d.treatment dir (bytesAt f.data 10 h.payloadLength) →
      (outcome = .dropped →
        (∀ l, d.treatment = .crane l → govern p f h dir i s =
          present (bearerVerdict p f .crane (some 0) .dropPoliced) ((s.setBearer i after).setLink l { s.link l with
            counts := { (s.link l).counts with controlExcess := bump16 (s.link l).counts.controlExcess } })) ∧
        ((∀ l, d.treatment ≠ .crane l) → govern p f h dir i s =
          present (bearerVerdict p f (kindOf d.treatment) (some (max h.requested d.cls)) .dropPoliced)
            (s.setBearer i after))) ∧
      (outcome ≠ .dropped →
        let payload := bytesAt f.data 10 h.payloadLength
        let cls : Sys2Proof.Class := if outcome = .demoted then 3 else classGiven d h.requested
        let trailer : Option Trailer := if dir = .up ∧ h.trailer = true then some {
            serving := byteAt f.data (10 + h.payloadLength)
            pairs := readPairs f.data (12 + h.payloadLength) (byteAt f.data (11 + h.payloadLength)).toNat }
          else none
        let passed : Passed := {
          port := p, frame := f, header := h, direction := dir, governing := i, treatment := d.treatment, cls := cls
          home := d.homeCell, trailer := trailer, payload := payload }
        govern p f h dir i s = handOn passed (s.setBearer i after) ∧
        ∃ record : Option FrameRecord, (∀ crane, passed.result crane = {
            port := p, direction := dir, bearer := h.bearer, sequence := h.sequence, requested := h.requested
            cell := h.cell, governing := i, treatment := d.treatment, cls := cls, length := length, home := d.homeCell
            trailer := trailer, record := record, crane := crane }) ∧
          (∀ l, d.treatment = .crane l → record = some (.control (readControl payload))) ∧
          (∀ slot absorb, d.treatment = .reefer slot absorb →
            record = if dir = .up then some (.report (readReport payload)) else none) ∧
          ((∀ l, d.treatment ≠ .crane l) → (∀ slot absorb, d.treatment ≠ .reefer slot absorb) → record = none)))

/-- O20. Where a frame that passed goes: an uplink GENERAL or REEFER frame offers its trailer, a REEFER frame's report
is taken, and it is absorbed or offered to the yard port; a downlink one is offered on its sending cell, the header's
or else the home cell, or given DROP_NO_CELL (R14, R15, R30, R36, R148). That the trailer of a REEFER frame is offered
before its report is taken is the model's choice (log entry 14). -/
def Obligations.PassedFramesHandedOn : Prop :=
  ∀ (s : State) (r : Passed),
    (∀ g, r.treatment = .general g → r.direction = .up →
      handOn r s = sentUp r none (offerTrailer false g r.header.cell r.trailer s)) ∧
    (∀ i absorb, r.treatment = .reefer i absorb → r.direction = .up →
      let segment := if (s.slot i).config.registered then (s.slot i).config.segment else none
      let taken := takeReport i (readReport r.payload) (offerTrailer false segment r.header.cell r.trailer s)
      (absorb = false → handOn r s = sentUp r none taken) ∧
      (absorb = true → handOn r s = present (r.verdict none .absorbed)
        { taken with registry := { taken.registry with absorbed := taken.registry.absorbed + 1 } })) ∧
    ((∃ g, r.treatment = .general g) ∨ (∃ i a, r.treatment = .reefer i a) → r.direction = .down →
      (∀ c, namesCell r c → s.cellUp c = true → handOn r s = sentDown r none (.forwarded (r.result none)) c s) ∧
      ((∀ c, namesCell r c → s.cellUp c = false) →
        (∀ c, r.home = some c → s.cellUp c = true → handOn r s = sentDown r none (.forwarded (r.result none)) c s) ∧
        ((∀ c, r.home = some c → s.cellUp c = false) → handOn r s = sentNowhere r none s)))

/-- O21. What a presentation brings at the Capture Unit: the hit flags and matches counters, the entry recorded, and
the state and counts of the unit; each count of the unit moves where its rule says so and stays everywhere else;
nothing outside the unit changes but by its notices (R165 to R173). -/
def Obligations.FramesCaptured : Prop :=
  ∀ (s : State) (v : Verdict),
    let u := s.capture
    let c := (present v s).capture
    let ok := fun m : Matcher => m.enable = true ∧ m.portMask.getLsbD (portNumber v.port) = true ∧
      (m.direction = none ∨ m.direction = v.direction) ∧
      (match v.identity with
        | none => m.lo = 0 ∧ m.hi = 4095
        | some i => m.lo ≤ i.1.toNat ∧ i.1.toNat ≤ m.hi) ∧
      m.kindMask.getLsbD (captureKindCode v.kind) = true ∧
      m.dispositionMask.getLsbD (dispositionCode v.disposition - 1) = true ∧
      (m.craneState = none ∨ m.craneState = v.craneState)
    let a := u.config.a.meets v
    let b := u.config.b.meets v
    let recorded : Prop := u.state = .tracing ∨
      ((u.state = .armed ∨ u.state = .sequence ∨ u.state = .post) ∧
        (u.config.matchedOnly = false ∨ a = true ∨ b = true))
    let qualifies : Prop := (u.state = .sequence ∧ a = true) ∨ (u.state = .armed ∧
      ((u.config.mode = .countA ∧ a = true) ∨ (u.config.mode = .countAOrB ∧ (a = true ∨ b = true)) ∨
        (u.config.mode = .countAAndB ∧ a = true ∧ b = true)))
    let triggers : Prop := (qualifies ∧ u.config.n ≤ u.triggerCount + 1) ∨
      (u.state = .armed ∧ u.config.mode = .aThenTrace ∧ a = true)
    let triggered := s.notify .triggered 0 (s.setting 53) (v.identity.map fun i => BitVec.setWidth 16 i.1)
    let frozen := fun w : State => w.notify .frozen 0 (s.setting 53) (some (BitVec.ofNat 16 c.buffer.length))
    let shows := fun w : State => present v s = { s with capture := c, notices := w.notices, store := w.store }
    (a = true ↔ ok u.config.a) ∧ (b = true ↔ ok u.config.b) ∧
    (triggers → u.config.mode = .aThenTrace ∨ u.config.post ≠ 0 → shows triggered) ∧
    (triggers → u.config.mode ≠ .aThenTrace → u.config.post = 0 → shows (frozen triggered)) ∧
    (¬triggers → u.state ≠ .frozen → c.state = .frozen → shows (frozen s)) ∧
    (¬triggers → u.state = .frozen ∨ c.state ≠ .frozen → shows s) ∧
    c.config = u.config ∧ c.hitA = (u.hitA || a) ∧ c.hitB = (u.hitB || b) ∧
    c.matchesA = (if a then u.matchesA + 1 else u.matchesA) ∧
    c.matchesB = (if b then u.matchesB + 1 else u.matchesB) ∧
    (¬recorded → c.buffer = u.buffer ∧ c.recorded = u.recorded) ∧
    (recorded → c.recorded = u.recorded + 1 ∧ c.buffer =
      u.buffer.drop (u.buffer.length - 255) ++ [{
        time := s.quayTime, port := v.port, direction := v.direction, identity := v.identity, size := v.size
        cls := v.cls, disposition := v.disposition, matchedA := a, matchedB := b }]) ∧
    (triggers → c.triggers = bump16 u.triggers ∧
      (u.config.mode = .aThenTrace → c.state = .tracing ∧ c.traceCount = 0) ∧
      (u.config.mode ≠ .aThenTrace → c.postCount = 0 ∧ c.state = if u.config.post = 0 then .frozen else .post)) ∧
    (¬triggers → c.triggers = u.triggers) ∧ (qualifies → c.triggerCount = u.triggerCount + 1) ∧
    (qualifies → ¬triggers → c.state = u.state) ∧
    (u.state = .armed → u.config.mode = .bThenCountA → b = true → c.state = .sequence ∧ c.triggerCount = 0) ∧
    (u.state = .post → (¬recorded → c.state = .post ∧ c.postCount = u.postCount) ∧
      (recorded → c.postCount = u.postCount + 1 ∧
        c.state = if u.config.post ≤ u.postCount + 1 then .frozen else .post)) ∧
    (u.state = .tracing → c.traceCount = u.traceCount + 1 ∧
      c.state = if u.config.n ≤ u.traceCount + 1 then .frozen else .tracing) ∧
    (u.state = .armed ∨ u.state = .sequence → ¬triggers → ¬qualifies →
      ¬(u.state = .armed ∧ u.config.mode = .bThenCountA ∧ b = true) →
      c.state = u.state ∧ c.triggerCount = u.triggerCount) ∧
    (u.state = .off ∨ u.state = .frozen → c.state = u.state) ∧
    (¬qualifies → ¬(u.state = .armed ∧ u.config.mode = .bThenCountA ∧ b = true) →
      c.triggerCount = u.triggerCount) ∧
    (¬(triggers ∧ u.config.mode ≠ .aThenTrace) → ¬(u.state = .post ∧ recorded) → c.postCount = u.postCount) ∧
    (¬(triggers ∧ u.config.mode = .aThenTrace) → u.state ≠ .tracing → c.traceCount = u.traceCount)

/-- O22. No bucket holds more than its burst and descriptor 0 stays the null descriptor (R10, 1.3); every coverage
estimate stays within 0 to 4080, and an entry without samples is UNKNOWN and unarmed (R100, R104). -/
def Obligations.RecordsStayLegal : Prop :=
  (∀ s t : State, s.bearersLegal → step s = .next t → t.bearersLegal) ∧
  (∀ s t : State, s.coverLegal → step s = .next t → t.coverLegal)

/-! ### Crane links -/

/-- O23. Write Entry and Clear Entries on CRANES: what each is refused with, and what an accepted one leaves (R46 to
R50, R74, R80). Bytes beyond the template length are no part of the template. A count of 0 is refused before a range
beyond the table, and that before BUSY, the model's order (log entry 13); results without a value carry 0 (log entry
24). -/
def Obligations.CraneWrites : Prop :=
  ∀ (s : State), s.alone →
    (∀ index f, 16 ≤ index → exec (.writeCranes index f) s = .next (s.ruled 3 .badIndex)) ∧
    (∀ f, craneFieldsFaulty f → readCrane f = none) ∧
    (∀ f, ¬craneFieldsFaulty f → readCrane f = some {
      enable := decide (f.enable = 1), bearer := f.bearer.setWidth 12, period := f.period.toNat
      jitter := f.jitter.toNat, threshold := f.threshold.toNat, recovery := f.recovery.toNat
      overlap := f.overlap.toNat, window := f.window.toNat, tokenA := f.tokenA, tokenB := f.tokenB
      template := f.template.take f.templateLength.toNat, degradedLevel := f.degradedLevel.toNat
      holdLevel := f.holdLevel.toNat, releasedLevel := f.releasedLevel.toNat
      pathPoorLevel := f.pathPoorLevel.toNat }) ∧
    (∀ (l : Link) f,
      let k := s.link l
      (readCrane f = none → exec (.writeCranes l.val f) s = .next (s.ruled 3 .badValue)) ∧
      (∀ c, readCrane f = some c →
        (c.enable = true → (s.bearer c.bearer.toNat).treatment ≠ .crane l →
          exec (.writeCranes l.val f) s = .next (s.ruled 3 .badValue)) ∧
        ((c.enable = true → (s.bearer c.bearer.toNat).treatment = .crane l) →
          (k.state = .idle → c.enable = false →
            exec (.writeCranes l.val f) s = .next ((s.setLink l { k with config := c }).ruled 3 .ok)) ∧
          (k.state = .idle → c.enable = true → exec (.writeCranes l.val f) s = .next ((s.setLink l {
            config := c, state := .arming, missed := 0, streak := 0, upDeadline := none, downDeadline := none
            upAlive := false, upSeq := none, downSeq := none, lastSent := none, segment := none, boom := .unknown
            reason := .none, releaseExpiry := none, holdCounter := 0, nextHold := none, resolved := [], previous := []
            overlapExpiry := none, pathPoor := false, commitPending := k.commitPending, applyNow := false
            counts := k.counts }).ruled 3 .ok)) ∧
          (k.state ≠ .idle → ¬sameButLevels c k.config →
            exec (.writeCranes l.val f) s = .next (s.ruled 3 .busy)) ∧
          (k.state ≠ .idle → sameButLevels c k.config →
            (c.enable = true →
              exec (.writeCranes l.val f) s = .next ((s.setLink l { k with config := c }).ruled 3 .ok)) ∧
            (c.enable = false → k.isHeld → exec (.writeCranes l.val f) s = .next (s.ruled 3 .refused)) ∧
            (c.enable = false → ¬k.isHeld → ∃ t : State, exec (.writeCranes l.val f) s = .next (t.ruled 3 .ok) ∧
              t = { s with links := t.links, paths := { s.paths with active := t.paths.active } } ∧
              t.link l = { k with
                config := c, state := .idle, missed := 0, streak := 0, upDeadline := none, downDeadline := none
                upAlive := false, upSeq := none, downSeq := none, lastSent := none, segment := none, boom := .unknown
                resolved := [], previous := [], overlapExpiry := none, pathPoor := false, commitPending := false
                applyNow := false } ∧
              (∀ j, j ≠ l → t.link j = s.link j) ∧
              ∀ j g, t.paths.active.get (pathIndex j g) = if j = l ∧ k.commitPending = true
                then s.paths.staged.get (pathIndex j g) else s.paths.active.get (pathIndex j g)))))) ∧
    (∀ first count,
      (count = 0 → exec (.clearCranes first count) s = .next (s.ruled 4 .badValue)) ∧
      (0 < count → 16 < first + count → exec (.clearCranes first count) s = .next (s.ruled 4 .badIndex)) ∧
      (0 < count → first + count ≤ 16 →
        ((∃ l : Link, first ≤ l.val ∧ l.val < first + count ∧ (s.link l).state ≠ .idle) →
          exec (.clearCranes first count) s = .next (s.ruled 4 .busy)) ∧
        ((∀ l : Link, first ≤ l.val → l.val < first + count → (s.link l).state = .idle) →
          ∃ t : State, exec (.clearCranes first count) s = .next (t.ruled 4 .ok) ∧ t = { s with links := t.links } ∧
            ∀ l : Link, t.link l =
              if first ≤ l.val ∧ l.val < first + count then { s.link l with config := .cold } else s.link l)))

/-- O24. Every crane link record stays legal: enable and state agree, commit pending stands in LIVE and DEGRADED alone
(R80), reason, release expiry and next hold order time stand with their states, a held link has no downlink deadline
and no overlap window, an IDLE link no deadline at all (3.1, R48, R49, R58, R63, R67 to R69, R89). -/
def Obligations.LinksStayLegal : Prop :=
  ∀ s t : State, s.linksLegal → step s = .next t → t.linksLegal

/-- O25. A link in HOLD leaves it for RELEASING alone; only a cold reset is the exception (R68, R69). -/
def Obligations.HoldLeftThroughRelease : Prop :=
  ∀ (c : Instr) (s t : State) (l : Link), (s.link l).state = .hold → exec c s = .next t → c ≠ .coldReset →
    (t.link l).state = .hold ∨ (t.link l).state = .releasing

/-- O26. A link out of IDLE keeps its engaged bearer, copies of control frames wait in the quay ports' class 0 queues
alone, and no received frame of a held link's bearer waits on a quay port in any class, so that none begins
transmission there (R20, R59, R61). That copies admitted while the link was IDLE are copies of control frames too, and
that frames admitted under another kind of descriptor are withdrawn with them, is deduced (log entries 15 and 25). -/
def Obligations.HeldLinksStayQuiet : Prop :=
  ∀ s t : State, s.heldQuiet → step s = .next t → t.heldQuiet

/-- O27. What a link makes of a frame of a CRANE descriptor before it is accepted: unsupervised passage on an IDLE
link, a stray frame of another bearer (R51), a duplicate and a late frame (R52), with the cell a downlink frame goes
out on (R30). -/
def Obligations.CraneFramesScreened : Prop :=
  ∀ (s : State) (r : Passed) (l : Link), r.treatment = .crane l →
    let k := s.link l
    (k.state = .idle →
      (r.direction = .up → handOn r s = sentUp r (some .idle) s) ∧
      (r.direction = .down →
        (∀ c, namesCell r c → s.cellUp c = true →
          handOn r s = sentDown r (some .idle) (.control (r.result (some .idle))) c s) ∧
        ((∀ c, namesCell r c → s.cellUp c = false) →
          (∀ c, r.home = some c → s.cellUp c = true →
            handOn r s = sentDown r (some .idle) (.control (r.result (some .idle))) c s) ∧
          ((∀ c, r.home = some c → s.cellUp c = false) → handOn r s = sentNowhere r (some .idle) s)))) ∧
    (k.state ≠ .idle → r.header.bearer ≠ k.config.bearer →
      handOn r s = present (r.verdict (some k.state) .dropHeld)
        (s.setLink l { k with counts := { k.counts with strayFrames := bump16 k.counts.strayFrames } })) ∧
    (k.state ≠ .idle → r.header.bearer = k.config.bearer → ∀ b, k.lastSeq r.direction = some b →
      (r.header.sequence = b → handOn r s = present (r.verdict (some k.state) .dropDuplicate)
        (s.setLink l { k with counts := { k.counts with duplicates := bump16 k.counts.duplicates } })) ∧
      (32768 ≤ (r.header.sequence - b).toNat → handOn r s = present (r.verdict (some k.state) .dropLate)
        (s.setLink l { k with counts := { k.counts with late := bump16 k.counts.late } })))

/-- O28. What a link makes of an accepted frame: its sequence and gap are taken (R52), its deadline and state move
(R53, R54, R60), an uplink frame sets position and boom, applies a pending commit, offers its trailer and goes to the
yard port (R57), a downlink frame is resolved and sent (R56) or, on a held link, has its token read and is dropped
(R61). That a token takes effect before its frame is presented with DROP_HELD is the model's choice (log entry 14). -/
def Obligations.AcceptedFrames : Prop :=
  ∀ (s : State) (r : Passed) (l : Link) (gap : Nat), r.treatment = .crane l →
    let k := s.link l
    let q := r.header.sequence
    let record := readControl r.payload
    let reload := later s.quayTime (k.config.period + k.config.jitter)
    let counts := { k.counts with gapFrames := BitVec.ofNat 16 (min 65535 (k.counts.gapFrames.toNat + gap)) }
    let moved := fun (other : Option Sequence) (j : CraneLink) => match k.state with
      | .arming => if other = none then j else { j with state := .live, missed := 0, streak := 0 }
      | .degraded => if k.config.recovery ≤ k.streak + 1 then { j with state := .live, missed := 0, streak := 0 }
          else { j with streak := k.streak + 1 }
      | _ => j
    k.state ≠ .idle → r.header.bearer = k.config.bearer → sequenceAccepted (k.lastSeq r.direction) q gap →
    (r.direction = .up →
      let segment := if record.bay = 255 then none else s.paths.geometry.get record.bay.toNat
      let after := moved k.downSeq { k with
        counts := counts, upSeq := some q, upDeadline := some reload, upAlive := true, segment := segment
        boom := record.boom }
      handOn r s = sentUp r (some k.state)
        (offerTrailer true segment r.header.cell r.trailer (applyPending l (s.setLink l after)))) ∧
    (r.direction = .down → ¬k.isHeld →
      handOn r s = resolveAndSend l r (some k.state) (s.setLink l (moved k.upSeq { k with
        counts := counts, downSeq := some q, downDeadline := some reload, lastSent := some q }))) ∧
    (r.direction = .down → k.isHeld →
      let taken := s.setLink l { k with counts := counts, downSeq := some q }
      (record.token = none → handOn r s = present (r.verdict (some k.state) .dropHeld) taken) ∧
      ∀ token, record.token = some token →
        handOn r s = present (r.verdict (some k.state) .dropHeld) (readToken l token taken))

/-- O29. What a release token does on a held link (R61, R67, R68). -/
def Obligations.ReleaseTokens : Prop :=
  ∀ (s : State) (l : Link) (token : BitVec 16),
    let k := s.link l
    let open' := s.setLink l { k with state := .releasing, releaseExpiry := some (later s.quayTime k.config.window) }
    let ignored := s.setLink l { k with counts := { k.counts with tokensIgnored := bump16 k.counts.tokensIgnored } }
    let reload := later s.quayTime (k.config.period + k.config.jitter)
    (k.state = .hold →
      (token = k.config.tokenA → k.upAlive = true → readToken l token s = open') ∧
      (token ≠ k.config.tokenA ∨ k.upAlive = false → readToken l token s = ignored)) ∧
    (k.state = .releasing →
      (token = k.config.tokenA → readToken l token s = open') ∧
      (token ≠ k.config.tokenA → token = k.config.tokenB → readToken l token s = (s.setLink l { k with
        state := .live, reason := .none, missed := 0, streak := 0, upDeadline := some reload
        downDeadline := some reload, releaseExpiry := none, nextHold := none }).notify .released l.val
          k.config.releasedLevel (k.segment.map fun g => BitVec.ofNat 16 g.val)) ∧
      (token ≠ k.config.tokenA → token ≠ k.config.tokenB → readToken l token s = ignored))

/-- O30. What the expiries of a link do: a miss of a working link, which may take it to DEGRADED or to HOLD (R55); the
re-arming in ARMING (R53) and on a held link (R60); the return of a RELEASING link to HOLD (R60, R69); the end of an
overlap window (R89). A deadline that is unarmed or not yet reached does not expire, and an armed deadline where no
run has one is unarmed (log entries 2 and 19). -/
def Obligations.LinkExpiries : Prop :=
  ∀ (s : State) (l : Link),
    let k := s.link l
    (∀ dir, (∀ d, k.deadline dir = some d → reached s.quayTime d = false) →
      exec (.deadlineExpiry l dir) s = .next s) ∧
    (∀ dir d, k.deadline dir = some d → reached s.quayTime d = true →
      let next := later d k.config.period
      let rearmed := if dir = .up then { k with upDeadline := some next, upAlive := false }
        else { k with downDeadline := some next }
      let unarmed := if dir = .up then { k with upDeadline := none, upAlive := false }
        else { k with downDeadline := none }
      let missed := { rearmed with missed := k.missed + 1, streak := 0 }
      (k.state = .arming → exec (.deadlineExpiry l dir) s = .next (s.setLink l rearmed)) ∧
      (k.isWorking → k.config.threshold ≤ k.missed + 1 →
        exec (.deadlineExpiry l dir) s = .next (enterHold l .deadline (s.setLink l missed))) ∧
      (k.missed + 1 < k.config.threshold →
        (k.state = .degraded → exec (.deadlineExpiry l dir) s = .next (s.setLink l missed)) ∧
        (k.state = .live → exec (.deadlineExpiry l dir) s = .next ((s.setLink l { missed with state := .degraded }).notify
          .degraded l.val k.config.degradedLevel (k.segment.map fun g => BitVec.ofNat 16 g.val)))) ∧
      (k.state = .hold → dir = .up → exec (.deadlineExpiry l dir) s = .next (s.setLink l rearmed)) ∧
      (k.state = .releasing → dir = .up →
        exec (.deadlineExpiry l dir) s = .next (s.setLink l { rearmed with state := .hold, releaseExpiry := none })) ∧
      (k.state = .idle ∨ (k.isHeld ∧ dir = .down) →
        exec (.deadlineExpiry l dir) s = .next (s.setLink l unarmed))) ∧
    ((∀ d, k.releaseExpiry = some d → reached s.quayTime d = false) → exec (.releaseExpiry l) s = .next s) ∧
    (∀ d, k.releaseExpiry = some d → reached s.quayTime d = true → exec (.releaseExpiry l) s = .next (s.setLink l
      (if k.state = .releasing then { k with state := .hold, releaseExpiry := none }
        else { k with releaseExpiry := none }))) ∧
    ((∀ d, k.overlapExpiry = some d → reached s.quayTime d = false) → exec (.overlapExpiry l) s = .next s) ∧
    (∀ d, k.overlapExpiry = some d → reached s.quayTime d = true →
      exec (.overlapExpiry l) s = .next (s.setLink l { k with previous := [], overlapExpiry := none }))

/-- O31. Hold order attempts: at a next hold order time reached, which is re-armed by one period; on the cells of the
active path entry in service, or else of the resolved set; sent if one copy is admitted, and deferred if none is (R63,
R64, R66). A next hold order time that is unarmed or not yet reached does not expire (log entry 2). -/
def Obligations.HoldOrderAttempts : Prop :=
  ∀ (s : State) (l : Link),
    let k := s.link l
    let inService := fun c : Option Cell => match c with
      | none => []
      | some c => if s.cellUp c then [c] else []
    let planned := match k.segment with
      | none => []
      | some g =>
        let e := s.paths.active.get (l.val * 64 + g.val)
        if e.primary = e.alternate then inService e.primary else inService e.primary ++ inService e.alternate
    let targets := if planned = [] then k.resolved.filter s.cellUp else planned
    let number := match k.lastSent with
      | none => 0
      | some q => q + 1
    let order := holdOrder s.identity s.bearerType s.quayTime k number (k.holdCounter + 1)
    let offered := offerOnCells .holdOrder order targets s
    let deferred := { k with counts := { k.counts with holdsDeferred := bump16 k.counts.holdsDeferred } }
    ((∀ d, k.nextHold = some d → reached s.quayTime d = false) → exec (.holdOrderTimeExpiry l) s = .next s) ∧
    (∀ d, k.nextHold = some d → reached s.quayTime d = true → exec (.holdOrderTimeExpiry l) s =
      .next (holdAttempt l (s.setLink l { k with nextHold := some (later d k.config.period) }))) ∧
    (targets = [] → holdAttempt l s = s.setLink l deferred) ∧
    (targets ≠ [] → (∀ a ∈ offered.1, a ≠ .admitted) → holdAttempt l s = offered.2.setLink l deferred) ∧
    (targets ≠ [] → .admitted ∈ offered.1 → holdAttempt l s = offered.2.setLink l { k with
      holdCounter := k.holdCounter + 1, lastSent := some number
      counts := { k.counts with holdsSent := bump16 k.counts.holdsSent } }) ∧
    (∀ o f c rest, offerOnCells o f (c :: rest) s =
      if (s.cell c).present = true then
        let a := s.offer (quayPort (s.cell c).quayPort) 0 (some c) o f
        (a.1 :: (offerOnCells o f rest a.2).1, (offerOnCells o f rest a.2).2)
      else offerOnCells o f rest s)

/-- O32. The hold order a link composes, and its cell field as admission writes it (R65; the cell field R35, the bytes
and codes R192 and R193, the padding R195). -/
def Obligations.HoldOrderComposed : Prop :=
  ∀ (id : Identity) (bearerType : EtherType) (now : QuayTime) (k : CraneLink) (c : Cell),
    k.config.template.length ≤ 64 →
    let n := k.config.template.length
    let f := holdOrder id bearerType now k k.holdSequence (k.holdCounter + 1)
    let h := readHeader (withCell f c).data
    f.dst = 0xFFFFFFFFFFFF#48 ∧ f.src = id.station ∧ f.etherType = bearerType ∧
    h.version = 1 ∧ h.direction = some .down ∧ h.requested = 0 ∧ h.trailer = false ∧ h.cell = BitVec.ofNat 8 c.val ∧
    h.bearer = k.config.bearer ∧ h.payloadLength = n + 8 ∧
    h.sequence = (match k.lastSent with
      | none => 0
      | some q => q + 1) ∧
    bytesAt (withCell f c).data 10 n = k.config.template ∧
    bytesAt (withCell f c).data (10 + n) 8 =
      [BitVec.ofNat 8 (match k.reason with
        | .none => 0
        | .deadline => 1
        | .managed => 2), 0] ++ put16 (k.holdCounter + 1).toNat ++ put32 now.toNat ∧
    (withCell f c).data.length = max 46 (18 + n) ∧ (18 + n < 46 → ∀ b ∈ f.data.drop (18 + n), b = 0)

/-- O33. What entry to HOLD does: the link's own fields; the withdrawal of the queued frames of its bearer from every
quay port, the rest of each queue staying in its order and their blocks returning; a pending commit; the overlap
window; then the notice, the first hold order attempt and the next hold order time (R58, R59, R63, R80). The frames
withdrawn are the copies of control frames of the bearer, also those admitted while the link was IDLE, and the frames
of the bearer admitted under another kind of descriptor (deduced, log entries 15 and 25). -/
def Obligations.EntryToHold : Prop :=
  ∀ (s : State) (l : Link) (reason : HoldReason), reason ≠ .none →
    let k := s.link l
    let t := enterHold l reason s
    t = { s with links := t.links, paths := { s.paths with active := t.paths.active }, store := t.store
                 notices := t.notices } ∧
    t.link l = { k with
      state := .hold, reason := reason, downDeadline := none, streak := 0, releaseExpiry := none
      commitPending := false, previous := [], overlapExpiry := none
      nextHold := some (later s.quayTime k.config.period), holdCounter := (t.link l).holdCounter
      lastSent := (t.link l).lastSent
      counts := { k.counts with
        holdsEntered := bump16 k.counts.holdsEntered, holdsSent := (t.link l).counts.holdsSent
        holdsDeferred := (t.link l).counts.holdsDeferred } } ∧
    (((t.link l).counts.holdsSent = bump16 k.counts.holdsSent ∧
        (t.link l).counts.holdsDeferred = k.counts.holdsDeferred ∧ (t.link l).holdCounter = k.holdCounter + 1 ∧
        (t.link l).lastSent = some k.holdSequence) ∨
      ((t.link l).counts.holdsSent = k.counts.holdsSent ∧
        (t.link l).counts.holdsDeferred = bump16 k.counts.holdsDeferred ∧
        (t.link l).holdCounter = k.holdCounter ∧ (t.link l).lastSent = k.lastSent)) ∧
    (∀ j, j ≠ l → t.link j = s.link j) ∧
    (∀ j g, t.paths.active.get (pathIndex j g) = if j = l ∧ k.commitPending = true
      then s.paths.staged.get (pathIndex j g) else s.paths.active.get (pathIndex j g)) ∧
    (∀ b e, isFrameOf b e = true ↔ ∃ r, (e.origin = .control r ∨ e.origin = .forwarded r) ∧ r.bearer = b) ∧
    (∀ p c, p ≠ .y →
      (∀ e ∈ (t.store.queue p c).entries, isFrameOf k.config.bearer e = false) ∧
      (t.store.queue p c).flushed = (s.store.queue p c).flushed + BitVec.ofNat 32
        ((s.store.queue p c).entries.filter (isFrameOf k.config.bearer)).length) ∧
    ∃ (m : FrameStore) (b : State),
      (∀ p, m.port p = s.store.port p) ∧ (∀ c, m.queue .y c = s.store.queue .y c) ∧
      (∀ p c, p ≠ .y → m.queue p c = { s.store.queue p c with
        entries := (s.store.queue p c).entries.filter fun e => !isFrameOf k.config.bearer e
        flushed := (s.store.queue p c).flushed + BitVec.ofNat 32
          ((s.store.queue p c).entries.filter (isFrameOf k.config.bearer)).length }) ∧
      m.free + m.held = s.store.free + s.store.held ∧ m.least = s.store.least ∧ m.noCell = s.store.noCell ∧
      b = { s with links := b.links, paths := t.paths, store := m } ∧ (∀ j, j ≠ l → b.link j = s.link j) ∧
      b.link l = { k with
        state := .hold, reason := reason, downDeadline := none, streak := 0, releaseExpiry := none
        commitPending := false, previous := [], overlapExpiry := none
        counts := { k.counts with holdsEntered := bump16 k.counts.holdsEntered } } ∧
      (let noticed := b.notify (if reason = .managed then .holdManaged else .holdDeadline) l.val k.config.holdLevel
        (k.segment.map fun g => BitVec.ofNat 16 g.val)
      let tried := holdAttempt l noticed
      t.notices = noticed.notices ∧
      t = tried.setLink l { tried.link l with nextHold := some (later s.quayTime k.config.period) })

/-- O34. The Crane Hold command acts on each link of its mask, in rising order (the model's order, log entry 14), by
the link's state: an IDLE or HOLD link is left as it is, a RELEASING link returns to HOLD with reason MANAGED, any
other enters HOLD on the state the links before it left (R62, R69). Its result value is the mask of the links in HOLD
when it completes, of all sixteen (deduced, log entry 20); refused, it is 0 (log entry 24). -/
def Obligations.CraneHoldActs : Prop :=
  ∀ (s : State) (mask : BitVec 16), s.alone →
    let held := fun (u : State) (l : Link) =>
      if (u.link l).state = .idle ∨ (u.link l).state = .hold then u
      else if (u.link l).state = .releasing then
        u.setLink l { u.link l with state := .hold, releaseExpiry := none, reason := .managed }
      else enterHold l .managed u
    let links := (List.finRange 16).filter fun l => mask.getLsbD l.val
    (mask = 0 → exec (.craneHold mask) s = .next (s.ruled 6 .badValue)) ∧
    (mask ≠ 0 → ∃ v : BitVec 32,
      let t := links.foldl held s
      exec (.craneHold mask) s = .next (t.answered 6 .ok v) ∧
      (∀ l, maskBit v l = decide ((t.link l).state = .hold)) ∧ v.toNat < 65536 ∧
      t = { s with links := t.links, paths := { s.paths with active := t.paths.active }, store := t.store
                   notices := t.notices } ∧
      ∀ l, ((s.link l).state = .idle ∨ (s.link l).state = .hold ∨ mask.getLsbD l.val = false →
          t.link l = s.link l) ∧
        (mask.getLsbD l.val = true → (s.link l).state = .releasing →
          t.link l = { s.link l with state := .hold, releaseExpiry := none, reason := .managed }) ∧
        (mask.getLsbD l.val = true → (s.link l).state = .arming ∨ (s.link l).isWorking →
          let before := (links.filter fun j => decide (j < l)).foldl held s
          before.link l = s.link l ∧ t.link l = (enterHold l .managed before).link l ∧
            (t.link l).state = .hold ∧ (t.link l).reason = .managed ∧
            (t.link l).missed = (s.link l).missed ∧
            (t.link l).counts.holdsEntered = bump16 (s.link l).counts.holdsEntered))

/-- O35. The Commit Paths command applies the commit to each link of its mask at once, or leaves it pending on a
working link, and its result value is the mask of the links with a commit pending (R80 to R82), of all sixteen
(deduced, log entry 20); refused, it is 0 (log entry 24). -/
def Obligations.CommitPathsActs : Prop :=
  ∀ (s : State) (mask : BitVec 16) (now : Bool), s.alone →
    (mask = 0 → exec (.commitPaths mask now) s = .next (s.ruled 5 .badValue)) ∧
    (mask ≠ 0 → ∃ (t : State) (v : BitVec 32), exec (.commitPaths mask now) s = .next (t.answered 5 .ok v) ∧
      (∀ l, maskBit v l = (t.link l).commitPending) ∧ v.toNat < 65536 ∧
      t = { s with links := t.links, paths := { s.paths with active := t.paths.active } } ∧
      ∀ l,
        let k := s.link l
        (mask.getLsbD l.val = false → t.link l = k ∧
          ∀ g, t.paths.active.get (pathIndex l g) = s.paths.active.get (pathIndex l g)) ∧
        (mask.getLsbD l.val = true → now = false → k.isWorking → t.link l = { k with commitPending := true } ∧
          ∀ g, t.paths.active.get (pathIndex l g) = s.paths.active.get (pathIndex l g)) ∧
        (mask.getLsbD l.val = true → now = true ∨ ¬k.isWorking →
          t.link l = { k with
            commitPending := false
            applyNow := if now = true ∧ k.state ≠ .idle then true else k.applyNow } ∧
          ∀ g, t.paths.active.get (pathIndex l g) = s.paths.staged.get (pathIndex l g)))

/-- O36. The result of a resolution: at NONE what remains of the resolved set, or else the home cell; at a segment the
primary if usable, or else the alternate, or else, poor, both as far as they are in service (R84 to R86). -/
def Obligations.ResolutionResult : Prop :=
  ∀ (s : State) (l : Link) (home : Option Cell),
    let k := s.link l
    (k.segment = none →
      (k.resolved.filter s.cellUp ≠ [] → s.resolution l home = (k.resolved.filter s.cellUp, none)) ∧
      (k.resolved.filter s.cellUp = [] →
        (∀ c, home = some c → s.cellUp c = true → s.resolution l home = ([c], none)) ∧
        ((∀ c, home = some c → s.cellUp c = false) → s.resolution l home = ([], none)))) ∧
    (∀ g, k.segment = some g →
      let e := s.paths.active.get (l.val * 64 + g.val)
      let usable := fun c : Cell => s.cellUp c = true ∧ (s.cover (g.val * 32 + c.val)).state ≠ .hole
      (∀ p, e.primary = some p → usable p → s.resolution l home = ([p], some false)) ∧
      ((∀ p, e.primary = some p → ¬usable p) →
        (∀ a, e.alternate = some a → usable a → s.resolution l home = ([a], some false)) ∧
        ((∀ a, e.alternate = some a → ¬usable a) → (s.resolution l home).2 = some true ∧
          (s.resolution l home).1.Nodup ∧ (s.resolution l home).1.length ≤ 2 ∧
          (∀ c, c ∈ (s.resolution l home).1 ↔ (e.primary = some c ∨ e.alternate = some c) ∧ s.cellUp c = true) ∧
          ∀ p, e.primary = some p → s.cellUp p = true → (s.resolution l home).1.head? = some p)))

/-- O37. What a resolution leaves in the link, and how the frame is sent: an empty result changes no set and is
DROP_NO_PATH (R87); the same cells only take their order, others change the set and the overlap window (R88, R89); a
first poor resolution is noticed (R86); the copies go out on the send set in order, with one disposition (R37, R90,
R91). The resolution clears the apply-now flag (R82). The sending is stated of every state too: in one indivisible
step (log entry 4) a cell just found is still present, so a send set wholly passed over is met by the sending alone.
-/
def Obligations.ResolvedFramesSent : Prop :=
  ∀ (s : State) (l : Link) (r : Passed) (crane : Option CraneState),
    let k := s.link l
    let found := s.resolution l r.home
    let opens : Prop := 0 < k.config.overlap ∧ k.resolved ≠ []
    let same : Prop := ∀ c, c ∈ found.1 ↔ c ∈ k.resolved
    let poor := found.2.getD k.pathPoor
    let offers := offerOnCells (.control (r.result crane)) r.frame
      (k.resolved ++ k.previous.filter fun c => !k.resolved.contains c) s
    (offers.1 = [] → sendCopies l r crane s = present (r.verdict crane .dropNoPath)
      (s.setLink l { k with counts := { k.counts with noPath := bump16 k.counts.noPath } })) ∧
    (offers.1 ≠ [] → sendCopies l r crane s = present (r.verdict crane
      (if .admitted ∈ offers.1 then .forwarded else if .refused .pool ∈ offers.1 then .dropPool
        else .dropQueueFull)) offers.2) ∧
    ∃ after : CraneLink,
      (found.1 = [] → after = { k with
        applyNow := false, pathPoor := poor, counts := { k.counts with noPath := bump16 k.counts.noPath } }) ∧
      (found.1 ≠ [] → same → after = { k with applyNow := false, pathPoor := poor, resolved := found.1 }) ∧
      (found.1 ≠ [] → ¬same → opens → after = { k with
        applyNow := false, pathPoor := poor, resolved := found.1, previous := k.resolved
        overlapExpiry := some (later s.quayTime k.config.overlap)
        counts := { k.counts with pathChanges := bump16 k.counts.pathChanges } }) ∧
      (found.1 ≠ [] → ¬same → ¬opens → after = { k with
        applyNow := false, pathPoor := poor, resolved := found.1, previous := [], overlapExpiry := none
        counts := { k.counts with pathChanges := bump16 k.counts.pathChanges } }) ∧
      (let noticed := if found.2 = some true ∧ k.pathPoor = false then (s.setLink l after).notify .pathPoor l.val
          k.config.pathPoorLevel (k.segment.map fun g => BitVec.ofNat 16 g.val)
        else s.setLink l after
      let sendSet := after.resolved ++ after.previous.filter fun c => !after.resolved.contains c
      let offered := offerOnCells (.control (r.result crane)) r.frame sendSet noticed
      (found.1 = [] → resolveAndSend l r crane s = present (r.verdict crane .dropNoPath) noticed) ∧
      (found.1 ≠ [] → offered.1 = [] → resolveAndSend l r crane s = present (r.verdict crane .dropNoPath)
        (offered.2.setLink l { after with counts := { after.counts with noPath := bump16 after.counts.noPath } })) ∧
      (found.1 ≠ [] → offered.1 ≠ [] → resolveAndSend l r crane s = present (r.verdict crane
        (if .admitted ∈ offered.1 then .forwarded else if .refused .pool ∈ offered.1 then .dropPool
          else .dropQueueFull)) offered.2))

/-! ### Coverage Map and Reefer Registry -/

/-- O38. The step of an estimate toward a sample: the distance times the weight, divided by 256 and rounded to the
nearest whole number, a tie away from zero; the new estimate is the old one and the step (R99), and lies between the
old one and the sample (R100). -/
def Obligations.CoverageStep : Prop :=
  ∀ e q k : Nat, e ≤ 4080 → q ≤ 255 → k ≤ 255 →
    let product : Int := (16 * (q : Int) - (e : Int)) * (k : Int)
    (0 ≤ product → coverStep e q k = (product + 128) / 256) ∧
    (product < 0 → coverStep e q k = -((-product + 128) / 256)) ∧
    (2 * (256 * coverStep e q k - product)).natAbs ≤ 256 ∧
    ((2 * (256 * coverStep e q k - product)).natAbs = 256 → product.natAbs < (256 * coverStep e q k).natAbs) ∧
    ((movedEstimate e q k : Nat) : Int) = (e : Int) + coverStep e q k ∧
    min e (16 * q) ≤ movedEstimate e q k ∧ movedEstimate e q k ≤ max e (16 * q)

/-- O39. An offered trailer: no sample without a segment; the weight by source kind and shadow; the samples in order,
one of a cell that is not present skipped (R94 to R97); and what an entry does with a sample, with its judgement,
counts and notice (R98, R101, R102). -/
def Obligations.TrailersSampled : Prop :=
  ∀ (s : State),
    (∀ crane cell t, offerTrailer crane none cell t s = s) ∧ (∀ crane g cell, offerTrailer crane g cell none s = s) ∧
    (∀ (g : Segment) (cell : Byte) (t : Trailer),
      let shadowed : Prop := ∃ l, (s.link l).state ≠ .idle ∧ (s.link l).segment = some g ∧ (s.link l).boom = .down
      let samples := (cell, t.serving) :: t.pairs
      (∀ crane, crane = true ∨ ¬shadowed →
        offerTrailer crane (some g) cell (some t) s = samples.foldl (offerSample g (s.setting 39)) s) ∧
      (shadowed → s.setting 40 = 0 → offerTrailer false (some g) cell (some t) s =
        { s with coverage := { s.coverage with discarded := s.coverage.discarded + 1 } }) ∧
      (shadowed → s.setting 40 ≠ 0 → offerTrailer false (some g) cell (some t) s =
        samples.foldl (offerSample g (s.setting 40))
          { s with coverage := { s.coverage with shadowed := s.coverage.shadowed + 1 } })) ∧
    (∀ (g : Segment) (k : Nat) (sample : Byte × Byte),
      ((∀ c : Cell, sample.1.toNat = c.val → (s.cell c).present = false) → offerSample g k s sample =
        { s with coverage := { s.coverage with skipped := s.coverage.skipped + 1 } }) ∧
      (∀ c : Cell, sample.1.toNat = c.val → (s.cell c).present = true →
        offerSample g k s sample = takeSample (g.val * 32 + c.val) sample.2.toNat k s)) ∧
    (∀ i q k : Nat,
      let e := s.cover i
      let estimate := if e.count = 0 then 16 * q else movedEstimate e.estimate q k
      let count := if e.count = 0 then 1 else min 255 (e.count + 1)
      ∃ (after : CoverState) (d : State),
        (e.state = .unknown → after = if count < s.setting 43 then .unknown
          else if estimate < s.setting 41 then .hole else .good) ∧
        (e.state = .good → after = if estimate < s.setting 41 then .hole else .good) ∧
        (e.state = .hole → after = if s.setting 41 + s.setting 42 ≤ estimate then .good else .hole) ∧
        (∀ j, d.cover j = if j = i then {
          state := after, estimate := estimate, count := count, lastTime := s.quayTime
          age := some (later s.quayTime (s.setting 44 * 1000)) } else s.cover j) ∧
        d = { s with coverage := { s.coverage with
          entries := d.coverage.entries, taken := s.coverage.taken + 1
          holesSet := if e.state = .good ∧ after = .hole then bump16 s.coverage.holesSet else s.coverage.holesSet
          holesCleared := if e.state = .hole ∧ after = .good then bump16 s.coverage.holesCleared
            else s.coverage.holesCleared } } ∧
        takeSample i q k s =
          if e.state = .good ∧ after = .hole then
            d.notify .holeSet i (s.setting 45) (some (BitVec.ofNat 16 estimate))
          else if e.state = .hole ∧ after = .good then
            d.notify .holeCleared i (s.setting 46) (some (BitVec.ofNat 16 estimate))
          else d)

/-- O40. What the expiries of an age, a stale and a lost deadline do (R104, R129, R130, R132). One that is unarmed or
not yet reached does not expire (deduced, log entry 2). -/
def Obligations.RecordsForget : Prop :=
  ∀ (s : State),
    (∀ i : Fin 2048, (∀ d, (s.cover i.val).age = some d → reached s.quayTime d = false) →
      exec (.ageDeadlineExpiry i) s = .next s) ∧
    (∀ (i : Fin 2048) d, (s.cover i.val).age = some d → reached s.quayTime d = true →
      exec (.ageDeadlineExpiry i) s = .next { s with coverage := { s.coverage with
        entries := s.coverage.entries.set i.val { s.cover i.val with state := .unknown, count := 0, age := none }
        aged := bump16 s.coverage.aged } }) ∧
    (∀ i : Slot,
      let r := (s.slot i).record
      let p := s.profileOf i
      let listed := fun v : ReeferRecord => { s with registry := { s.registry with
        slots := s.registry.slots.set i.val { s.slot i with record := { v with changed := true } }
        changeList := if r.changed then s.registry.changeList else s.registry.changeList ++ [i] } }
      let gone := listed { r with freshness := .lost, lost := none, confirmed := none, candidateCount := 0 }
      ((∀ d, r.stale = some d → reached s.quayTime d = false) → exec (.staleDeadlineExpiry i) s = .next s) ∧
      (∀ d, r.stale = some d → reached s.quayTime d = true →
        (includesEdge p.staleEdges .enter → exec (.staleDeadlineExpiry i) s =
          .next ((listed { r with freshness := .stale, stale := none }).notify .staleEnter i.val p.staleLevel
            (r.confirmed.map fun c => BitVec.ofInt 16 c))) ∧
        (¬includesEdge p.staleEdges .enter → exec (.staleDeadlineExpiry i) s =
          .next (listed { r with freshness := .stale, stale := none }))) ∧
      ((∀ d, r.lost = some d → reached s.quayTime d = false) → exec (.lostDeadlineExpiry i) s = .next s) ∧
      (∀ d, r.lost = some d → reached s.quayTime d = true →
        exec (.lostDeadlineExpiry i) s = .next (gone.notify .lost i.val p.staleLevel none)))

/-- O41. The change list never holds a slot twice and holds exactly the slots whose changed flag is set (R139); a slot
that is changed or has a deadline armed is registered, and no excursion exceeds its greatest value (R119). -/
def Obligations.ChangeListStaysExact : Prop :=
  ∀ s t : State, s.listExact → step s = .next t → t.listExact

/-- O42. A report is taken by the count of reports taken; one to an unregistered slot is counted alone (R115), one
with another mark is refused as a mismatch (R116), and one that repeats the last counter as a repeat (R117). -/
def Obligations.ReportsRefused : Prop :=
  ∀ (s : State) (i : Slot) (rep : Report),
    let g := { s.registry with taken := s.registry.taken + 1 }
    let v := s.slot i
    (v.config.registered = false →
      takeReport i rep s = { s with registry := { g with unregistered := g.unregistered + 1 } }) ∧
    (v.config.registered = true → rep.mark ≠ v.config.mark → takeReport i rep s =
      ({ s with registry := { g with
        slots := g.slots.set i.val { v with record := { v.record with mismatches := bump16 v.record.mismatches } }
        mismatched := g.mismatched + 1 } } : State).notify .mismatch i.val (s.setting 47)
          (some (rep.counter.setWidth 16))) ∧
    (v.config.registered = true → rep.mark = v.config.mark → v.record.lastCounter = some rep.counter →
      takeReport i rep s = { s with registry := { g with
        slots := g.slots.set i.val { v with record := { v.record with duplicates := bump16 v.record.duplicates } }
        repeated := g.repeated + 1 } })

/-- O43. The spike filter (R122). A run of candidates holds a candidate. -/
def Obligations.SpikeFilterConfirms : Prop :=
  ∀ (step : Nat) (confirmed candidate : Option Int) (count : Nat), (count ≠ 0 → candidate ≠ none) →
    let apart := fun a b : Int => (a - b).natAbs
    spikeFilter step none confirmed candidate count = (confirmed, candidate, count) ∧
    ∀ r : Int,
      (confirmed = none → spikeFilter step (some r) confirmed candidate count = (some r, candidate, 0)) ∧
      (∀ c, confirmed = some c →
        (apart r c ≤ step → spikeFilter step (some r) confirmed candidate count = (some r, candidate, 0)) ∧
        (step < apart r c →
          (count = 0 → spikeFilter step (some r) confirmed candidate count = (some c, some r, 1)) ∧
          (∀ k, count ≠ 0 → candidate = some k →
            (apart r k ≤ step → count + 1 < 3 →
              spikeFilter step (some r) confirmed candidate count = (some c, some k, count + 1)) ∧
            (apart r k ≤ step → 3 ≤ count + 1 →
              spikeFilter step (some r) confirmed candidate count = (some r, some k, 0)) ∧
            (step < apart r k → spikeFilter step (some r) confirmed candidate count = (some c, some r, 1)))))

/-- O44. What an accepted report does to its slot: excursion, values, spike filter, checks, freshness and timers, last
counter, the changed flag and list, and the notices of its edges in order (R118 to R128, R132). -/
def Obligations.ReportsAccepted : Prop :=
  ∀ (s : State) (i : Slot) (rep : Report),
    let b := (s.slot i).record
    let p := s.profileOf i
    let limit := fun t : Int => max (-500) (min 500 t)
    let seconds := min 600 ((s.quayTime - b.lastTime).toNat / 1000)
    (s.slot i).config.registered = true → rep.mark = (s.slot i).config.mark → b.lastCounter ≠ some rep.counter →
    ∃ (a : ReeferRecord) (changed : Bool),
      (∀ c sp, b.confirmed = some c → b.setpoint = some sp → b.freshness = .fresh ∨ b.freshness = .stale →
        (p.band : Int) < c - sp →
        a.excursion = min 4294967295 (b.excursion + (c - sp - (p.band : Int)).toNat * seconds)) ∧
      (b.confirmed = none ∨ b.setpoint = none ∨ b.freshness = .never ∨ b.freshness = .lost ∨
        (∃ c sp, b.confirmed = some c ∧ b.setpoint = some sp ∧ c - sp ≤ (p.band : Int)) → a.excursion = b.excursion) ∧
      (a.confirmed, a.candidate, a.candidateCount) =
        spikeFilter p.spikeStep (rep.supply.map limit) b.confirmed b.candidate b.candidateCount ∧
      a.returnTemp = (if rep.returnTemp = none then b.returnTemp else rep.returnTemp.map limit) ∧
      a.setpoint = (if rep.setpoint = none then b.setpoint else rep.setpoint.map limit) ∧
      a.power = some (if rep.powerCode = 1 then .on else if rep.powerCode = 3 then .defrost else .off) ∧
      a.alarms = (rep.alarms.filter fun c => decide (c ≠ 0)) ∧
      (a.rangeFlag = true ↔ (∃ t, (rep.supply = some t ∨ rep.returnTemp = some t ∨ rep.setpoint = some t) ∧
        (t < -500 ∨ 500 < t)) ∨ (rep.powerCode ≠ 1 ∧ rep.powerCode ≠ 2 ∧ rep.powerCode ≠ 3) ∨ 4 < rep.alarmCount ∨
        0 ∈ rep.alarms) ∧
      (a.power = some .defrost ∨ a.confirmed = none ∨ a.setpoint = none → a.high = b.high) ∧
      (a.confirmed = none ∨ a.setpoint = none → a.low = b.low) ∧
      (∀ c sp, a.confirmed = some c → a.setpoint = some sp →
        (a.power ≠ some .defrost →
          (b.high = false → (a.high = true ↔ sp + (p.highMargin : Int) < c)) ∧
          (b.high = true → (a.high = false ↔ c ≤ sp + (p.highMargin : Int) - (p.hysteresis : Int)))) ∧
        (b.low = false → (a.low = true ↔ c < sp - (p.lowMargin : Int))) ∧
        (b.low = true → (a.low = false ↔ sp - (p.lowMargin : Int) + (p.hysteresis : Int) ≤ c))) ∧
      (a.powerCheck = true ↔ a.power = some .off) ∧ (a.alarmCheck = true ↔ a.alarms ≠ []) ∧
      a.freshness = .fresh ∧ a.lastTime = s.quayTime ∧ a.stale = some (later s.quayTime (p.staleTime * 1000)) ∧
      a.lost = some (later s.quayTime (p.lostTime * 1000)) ∧ a.lastCounter = some rep.counter ∧
      a.summarised = b.summarised ∧ a.mismatches = b.mismatches ∧ a.duplicates = b.duplicates ∧
      (changed = true ↔ a.high ≠ b.high ∨ a.low ≠ b.low ∨ a.powerCheck ≠ b.powerCheck ∨
        a.alarmCheck ≠ b.alarmCheck ∨ a.freshness ≠ b.freshness ∨ a.power ≠ b.power ∨ a.alarms ≠ b.alarms ∨
        (∃ c q, a.confirmed = some c ∧ a.summarised = some q ∧ p.reportDelta ≤ (c - q).natAbs) ∨
        a.confirmed.isSome ≠ a.summarised.isSome) ∧
      a.changed = (b.changed || changed) ∧
      (let word := a.confirmed.map fun c => BitVec.ofInt 16 c
      let stored := { s with registry := { s.registry with
        taken := s.registry.taken + 1, accepted := s.registry.accepted + 1
        slots := s.registry.slots.set i.val { s.slot i with record := a }
        changeList := if changed = true ∧ b.changed = false then s.registry.changeList ++ [i]
          else s.registry.changeList } }
      let edge := fun (select : EdgeSelect) (level : Nat) (enter leave : Event) (before after : Bool) (u : State) =>
        if before = false ∧ after = true ∧ (select = .enter ∨ select = .both) then u.notify enter i.val level word
        else if before = true ∧ after = false ∧ (select = .leave ∨ select = .both) then u.notify leave i.val level word
        else u
      let checked := edge p.alarmEdges p.alarmLevel .alarmEnter .alarmLeave b.alarmCheck a.alarmCheck
        (edge p.powerEdges p.powerLevel .powerEnter .powerLeave b.powerCheck a.powerCheck
          (edge p.lowEdges p.lowLevel .lowEnter .lowLeave b.low a.low
            (edge p.highEdges p.highLevel .highEnter .highLeave b.high a.high stored)))
      takeReport i rep s =
        if (b.freshness = .stale ∨ b.freshness = .lost) ∧ (p.staleEdges = .leave ∨ p.staleEdges = .both) then
          checked.notify .staleLeave i.val p.staleLevel word
        else checked)

/-- O45. A slot's excursion accumulator never decreases, but by a write or clear of the slot, a warm restart or a cold
reset (R120). -/
def Obligations.ExcursionNeverDecreases : Prop :=
  ∀ (c : Instr) (s t : State) (i : Slot), (s.slot i).record.excursion ≤ 4294967295 → exec c s = .next t →
    (∀ f, c ≠ .writeReefers i.val f) → (∀ first count, inRange first count i.val → c ≠ .clearReefers first count) →
    c ≠ .restart → c ≠ .coldReset → (s.slot i).record.excursion ≤ (t.slot i).record.excursion

/-! ### Summary Builder and Notice Unit -/

/-- O46. The summary timer re-arms from its own expiry and begins a pass or counts an overrun (R140, R142); a frame
step ends the pass on destination, list or back-pressure, or builds and offers a frame and acts on the answer (R143 to
R146). A timer not yet reached does not expire, and without a pass there is no step (log entry 2); that an expiry with
destination 0 counts an overrun while a pass is in progress is the model's choice (log entry 27). The bytes of the
frame: its header of 10 bytes and its records in list order, padded (R144, R194, R195), a number cut to its field
(deduced, log entry 21). -/
def Obligations.SummaryPasses : Prop :=
  ∀ (s : State),
    let b := s.summary
    let armed := { b with timer := later b.timer (s.setting 48 * 1000) }
    let packed := s.registry.changeList.take 24
    let records := packed.map fun i => (i, s.slot i)
    let number := b.counter + 1
    let offered := s.offer .y 3 none .summary
      (summaryFrame s.identity (BitVec.ofNat 48 (s.setting 49)) s.quayTime number records)
    let ready : Prop := b.passing = true ∧ s.setting 49 ≠ 0 ∧ s.registry.changeList ≠ [] ∧
      2 * (s.store.queue .y 3).entries.length < s.queueLimit .y 3
    (reached s.quayTime b.timer = false → exec .summaryTimerExpiry s = .next s) ∧
    (reached s.quayTime b.timer = true →
      (b.passing = true → exec .summaryTimerExpiry s =
        .next { s with summary := { armed with overruns := bump16 b.overruns } }) ∧
      (b.passing = false → s.setting 49 = 0 → exec .summaryTimerExpiry s = .next { s with summary := armed }) ∧
      (b.passing = false → s.setting 49 ≠ 0 → exec .summaryTimerExpiry s =
        exec .frameStep { s with summary := { armed with passing := true } })) ∧
    (b.passing = false → exec .frameStep s = .next s) ∧
    (b.passing = true → s.setting 49 = 0 → exec .frameStep s =
      .next { s with summary := { b with passing := false } }) ∧
    (b.passing = true → s.setting 49 ≠ 0 → s.registry.changeList = [] → exec .frameStep s =
      .next { s with summary := { b with passing := false, passesCompleted := bump16 b.passesCompleted } }) ∧
    (b.passing = true → s.setting 49 ≠ 0 → s.registry.changeList ≠ [] →
      s.queueLimit .y 3 ≤ 2 * (s.store.queue .y 3).entries.length → exec .frameStep s =
        .next { s with summary := { b with passing := false, passesDeferred := bump16 b.passesDeferred } }) ∧
    (ready → ∀ cause, offered.1 = .refused cause → exec .frameStep s = .next { s with
      store := offered.2.store
      summary := { b with passing := false, framesRefused := bump16 b.framesRefused } }) ∧
    (ready → offered.1 = .admitted → ∃ t, exec .frameStep s = .next t ∧
      t = { s with
        store := offered.2.store
        summary := { b with
          counter := number, framesSent := b.framesSent + 1
          recordsSent := b.recordsSent + BitVec.ofNat 32 packed.length }
        registry := { s.registry with
          slots := t.registry.slots, changeList := s.registry.changeList.drop 24 } } ∧
      ∀ i, t.slot i = if i ∈ packed then { s.slot i with record := { (s.slot i).record with
        changed := false, summarised := (s.slot i).record.confirmed } } else s.slot i) ∧
    ∀ (dst : Address) (now : QuayTime) (counter : Sequence) (slots : List (Slot × ReeferSlot)),
      (∀ e ∈ slots, e.2.config.mark.length = 11) →
      let f := summaryFrame s.identity dst now counter slots
      let size := fun before : List (Slot × ReeferSlot) =>
        10 + (before.map fun e => 27 + e.2.record.alarms.length).sum
      composed f dst s.identity.station s.identity.managementEtherType (size slots) ∧
      fieldsAt f.data 0 [(0, bigEndian 1 4), (1, bigEndian 1 0), (2, bigEndian 2 counter.toNat),
        (4, bigEndian 4 now.toNat), (8, bigEndian 1 slots.length), (9, bigEndian 1 0)] ∧
      ∀ before e after, slots = before ++ e :: after →
        fieldsAt f.data (size before) (summaryRecordLayout e.1 e.2)

/-- O47. An offered notice is judged on the floor and then on the room in the queue; a full queue gives way to an
arrival of higher level, and only to it, and counts one notice lost (R151, R152, R154, R155). -/
def Obligations.NoticesJudged : Prop :=
  ∀ (s : State) (event : Event) (index level : Nat) (data : Option (BitVec 16)),
    let u := s.notices
    let n : Notice := { event := event, index := index, level := level, time := s.quayTime, data := data }
    let lost := { u with lost := bump16 u.lost }
    (level = 0 → s.notify event index level data = s) ∧
    (0 < level → level ≤ s.setting 50 → s.notify event index level data =
      { s with notices := { u with suppressed := u.suppressed.bump (eventKind event) } }) ∧
    (0 < level → s.setting 50 < level → u.queue.length < 64 → s.notify event index level data =
      ({ s with notices := { u with queue := u.queue ++ [n] } } : State).emitNotices) ∧
    (0 < level → s.setting 50 < level → u.queue.length = 64 → ∀ low, (∃ m ∈ u.queue, m.level = low) →
      (∀ m ∈ u.queue, low ≤ m.level) →
      (level ≤ low → s.notify event index level data = { s with notices := lost }) ∧
      (low < level → ∀ before old after, u.queue = before ++ old :: after → old.level = low →
        (∀ m ∈ after, m.level ≠ low) → (before ++ after ++ [n]).length = 64 ∧
        s.notify event index level data =
          ({ s with notices := { lost with queue := before ++ after ++ [n] } } : State).emitNotices))

/-- O48. An emission attempt, made when the unit is READY with notices queued and a destination: which notices it
selects, and what the admission answer brings; and the expiry of the pacing deadline (R157 to R159). A pacing deadline
that is unarmed or not yet reached does not expire (log entry 2). The bytes of the frame: its header of 12 bytes and
its records of 18, padded (R194, R195), a number cut to its field (deduced, log entry 21), with the source kinds and
event codes of R192 and of the table of 8.1. -/
def Obligations.NoticesEmitted : Prop :=
  ∀ (s : State),
    let u := s.notices
    let chosen := selectNotices u.queue
    let rest := withoutSelected u.queue chosen
    let gap := s.setting 51
    let offered := s.offer .y 1 none .notice (noticeFrame s.identity (BitVec.ofNat 48 (s.setting 52)) s.quayTime
      (u.counter + 1) rest.length u.lost chosen)
    let sent := { u with
      queue := rest, counter := u.counter + 1, framesSent := u.framesSent + 1
      noticesSent := u.noticesSent + BitVec.ofNat 32 chosen.length }
    let ready : Prop := u.pacing = none ∧ u.queue ≠ [] ∧ s.setting 52 ≠ 0
    ((∀ d, u.pacing = some d → reached s.quayTime d = false) → exec .pacingDeadlineExpiry s = .next s) ∧
    (∀ d, u.pacing = some d → reached s.quayTime d = true → exec .pacingDeadlineExpiry s =
      .next ({ s with notices := { u with pacing := none } } : State).emitNotices) ∧
    (¬ready → s.emitNotices = s) ∧
    (ready → ∀ cause, offered.1 = .refused cause → s.emitNotices = { s with
      store := offered.2.store
      notices := { u with
        framesRefused := bump16 u.framesRefused, pacing := some (later s.quayTime (max 1 gap)) } }) ∧
    (ready → offered.1 = .admitted → gap ≠ 0 → s.emitNotices = { s with
      store := offered.2.store, notices := { sent with pacing := some (later s.quayTime gap) } }) ∧
    ((∀ n ∈ u.queue, 1 ≤ n.level ∧ n.level ≤ 7) →
      (ready → offered.1 = .admitted → gap = 0 → s.emitNotices =
        ({ s with store := offered.2.store, notices := { sent with pacing := none } } : State).emitNotices) ∧
      chosen.length = min 16 u.queue.length ∧ (chosen ++ rest).Perm u.queue ∧ rest.Sublist u.queue ∧
      chosen.Pairwise (fun a b => b.level ≤ a.level) ∧ (∀ a ∈ chosen, ∀ b ∈ rest, b.level ≤ a.level) ∧
      ∀ level, (chosen.filter fun n => n.level == level) <+: (u.queue.filter fun n => n.level == level)) ∧
    (∀ (dst : Address) (now : QuayTime) (number : Sequence) (remaining : Nat) (lost : Count16) (notices : List Notice),
      let f := noticeFrame s.identity dst now number remaining lost notices
      composed f dst s.identity.station s.identity.managementEtherType (12 + 18 * notices.length) ∧
      fieldsAt f.data 0 [(0, bigEndian 1 3), (1, bigEndian 1 notices.length), (2, bigEndian 2 number.toNat),
        (4, bigEndian 4 now.toNat), (8, bigEndian 1 remaining), (9, bigEndian 1 0), (10, bigEndian 2 lost.toNat)] ∧
      ∀ k n, notices[k]? = some n → fieldsAt f.data (12 + 18 * k) (noticeLayout n)) ∧
    ([.degraded, .holdDeadline, .holdManaged, .released, .pathPoor, .holeSet, .holeCleared, .highEnter, .highLeave,
      .lowEnter, .lowLeave, .powerEnter, .powerLeave, .alarmEnter, .alarmLeave, .staleEnter, .staleLeave, .lost,
      .mismatch, .triggered, .frozen, .linkDown, .linkUp].map fun e => (sourceKindCode (eventKind e), eventCode e)) =
      [(1, 1), (1, 2), (1, 3), (1, 4), (1, 5), (2, 1), (2, 2), (3, 1), (3, 2), (3, 3), (3, 4), (3, 5), (3, 6), (3, 7),
        (3, 8), (3, 9), (3, 10), (3, 11), (3, 12), (4, 1), (4, 2), (5, 1), (5, 2)]

/-- O49. The notice queue never holds more than 64 notices, nor one at or below the floor (R154); the capture buffer
never more than 256 entries (R168), the request list never more than four requests (R181); what a layout gives a
number of places fits them (R46, R64, R86, R134, R193, R198), and every command that waits is well-formed. -/
def Obligations.ListsStayBounded : Prop :=
  (∀ s t : State, s.noticesLegal → step s = .next t → t.noticesLegal) ∧
  (∀ s t : State, s.buffersLegal → step s = .next t → t.buffersLegal) ∧
  (∀ s t : State, s.sizesLegal → step s = .next t → t.sizesLegal)

/-! ### Commands of management -/

/-- O50. The capture commands: what an Arm is refused with and what an accepted one loads and leaves (R174), a Stop,
and a Clear Hits with the flags it reports (R175, coded as R197). Mask bits that name nothing are the model's free
choice (log entry 12); results without a value carry 0 (log entry 24). -/
def Obligations.CaptureCommands : Prop :=
  ∀ (s : State), s.alone →
    let u := s.capture
    let code : Nat := match u.state with
      | .off => 0
      | .armed => 1
      | .sequence => 2
      | .post => 3
      | .tracing => 4
      | .frozen => 5
    (∀ f, captureFaulty f → exec (.captureArm f) s = .next (s.ruled 9 .badValue)) ∧
    (∀ f, ¬captureFaulty f → matcherClean f.a → matcherClean f.b → ∃ c : CaptureConfig,
      exec (.captureArm f) s = .next (({ s with capture := { u with
        config := c, buffer := [], hitA := false, hitB := false, triggerCount := 0, postCount := 0, traceCount := 0
        state := if c.mode = .trace then .tracing else .armed } } : State).ruled 9 .ok) ∧
      matcherLoaded f.a c.a ∧ matcherLoaded f.b c.b ∧ captureModeCode c.mode = f.mode.toNat ∧ c.n = f.n.toNat ∧
      c.post = f.post.toNat ∧ c.matchedOnly = decide (f.filter = 1)) ∧
    exec .captureStop s = .next (({ s with capture := { u with state := .off } } : State).answered 10 .ok 0) ∧
    exec .captureClearHits s = .next (({ s with capture := { u with hitA := false, hitB := false } } : State).answered 12
      .ok (BitVec.ofNat 32 (code + (if u.hitA then 256 else 0) + (if u.hitB then 512 else 0))))

/-- O51. A management command by itself shows one result, and one that is refused changes nothing else (R183). -/
def Obligations.RefusedCommandsChangeNothing : Prop :=
  ∀ (c : Instr) (code : Byte) (s : State), managementCode c = some code → s.alone →
    ∃ (t : State) (a : Answer), exec c s = .next t ∧ t.endpoint.answer = some a ∧ a.code = code ∧ t.alone ∧
      (a.result ≠ .ok → t = showAnswer a s ∧ a.data = [])

/-- O52. A command of a request that has not met a NOT_RUN, and whose result data fits, has the result and the effect
it has by itself; the result then joins those of the request (R183 to R185). -/
def Obligations.CommandsInARequest : Prop :=
  ∀ (c : Instr) (code : Byte) (s t : State) (e : Execution) (a : Answer), managementCode c = some code →
    c ≠ .restart → s.endpoint.executing = some e → e.cannotRun (resultSize c) = false →
    exec c (s.withExecuting none) = .next t → t.endpoint.answer = some a →
    exec c s = .next (settle e a (t.withExecuting (some e)))

/-- O53. A command that follows a NOT_RUN, or whose result data would not fit the reply data space, is given NOT_RUN
and does nothing (R183, R184); a result joins the request's, and after the last one the reply is offered and the
request ends (R185). The bytes of the reply: its header of 8 bytes, a result part of 8 for each command and the result
data, padded (R192, R195, R196). The value of a NOT_RUN is 0, the model's choice (log entry 24). -/
def Obligations.RequestsEnd : Prop :=
  (∀ (c : Instr) (code : Byte) (s : State) (e : Execution), managementCode c = some code →
    s.endpoint.executing = some e →
    e.stopped = true ∨ 2022 - 8 * e.request.commands.length < (e.results.map fun a => a.data.length).sum + resultSize c →
    exec c s = .next (settle e { code := code, result := .notRun, value := 0, data := [] } s)) ∧
  ∀ (s : State) (e : Execution) (a : Answer),
    let results := e.results ++ [a]
    let shown := showAnswer a s
    let offered := shown.offer .y 1 none .reply (replyFrame s.identity e.request results)
    (results.length < e.request.commands.length → settle e a s = shown.withExecuting (some {
      request := e.request, results := results, stopped := e.stopped || decide (a.result = .notRun) })) ∧
    (e.request.commands.length ≤ results.length →
      (offered.1 = .admitted → settle e a s = { offered.2 with endpoint := { shown.endpoint with
        executing := none, executed := s.endpoint.executed + 1 } }) ∧
      (∀ cause, offered.1 = .refused cause → settle e a s = { offered.2 with endpoint := { shown.endpoint with
        executing := none, repliesLost := bump16 s.endpoint.repliesLost } })) ∧
    (∀ (q : Request) (parts : List Answer),
      let f := replyFrame s.identity q parts
      let data := parts.flatMap fun a => a.data
      composed f q.source s.identity.station s.identity.managementEtherType (8 + 8 * parts.length + data.length) ∧
      fieldsAt f.data 0 [(0, bigEndian 1 2), (1, bigEndian 1 0), (2, bigEndian 2 q.tag.toNat),
        (4, bigEndian 1 parts.length), (5, bigEndian 3 0), (8 + 8 * parts.length, data)] ∧
      ∀ k a, parts[k]? = some a → fieldsAt f.data (8 + 8 * k) (resultLayout a)) ∧
    [.ok, .badCommand, .badTable, .badIndex, .badValue, .busy, .refused, .notRun].map resultCode =
      [0, 1, 2, 3, 4, 5, 6, 7]

/-- O54. A write of a setting, by `writeSettings`, `bearerTypeWrite`, `queueLimitWrite`, `noticeFloorWrite`,
`summaryIntervalWrite` or `noticeDestinationWrite` (`settingOf` gives the index and value of each): its index, its
range, the bearer type's forbidden value, a limit below its queue's length, and the effects of an accepted write (R2,
R34, R140, R153, R157, R187). That a queue limit of 0 on a queue with entries is BAD_VALUE and not BUSY is the model's
order (log entry 13); the result value is 0 (log entry 24). -/
def Obligations.SettingsWritten : Prop :=
  ((List.range 54).map settingRange =
    [(0, 65535), (0, 4096)] ++ List.replicate 20 (1, 512) ++ List.replicate 15 (1, 15) ++
      [(0, 7), (0, 7), (1, 255), (0, 255), (0, 4080), (0, 1023), (1, 15), (1, 3600), (0, 7), (0, 7), (0, 7), (10, 3600),
        (0, 281474976710655), (0, 7), (0, 10000), (0, 281474976710655), (0, 7)]) ∧
  ∀ (c : Instr) (i v : Nat) (s : State), settingOf c = some (i, v) → s.alone →
    let stored := { s with settings := s.settings.set i v }
    let fits : Prop := (settingRange i).1 ≤ v ∧ v ≤ (settingRange i).2 ∧
      (i = 0 → v ≠ s.identity.managementEtherType.toNat)
    let room : Prop := ∀ p k, i = 2 + 4 * portNumber p + k.val → (s.store.queue p k).entries.length ≤ v
    (53 < i → exec c s = .next (s.ruled 3 .badIndex)) ∧
    (i ≤ 53 → ¬fits → exec c s = .next (s.ruled 3 .badValue)) ∧
    (i ≤ 53 → fits → ¬room → exec c s = .next (s.ruled 3 .busy)) ∧
    (i ≤ 53 → fits → room → exec c s = .next (State.ruled (
      if i = 48 then { stored with summary := { s.summary with timer := later s.quayTime (v * 1000) } }
      else if i = 50 ∧ s.setting 50 < v then { stored with notices := { s.notices with
        queue := s.notices.queue.filter fun n => decide (v < n.level)
        suppressed := (s.notices.queue.filter fun n => decide (n.level ≤ v)).foldl
          (fun k n => k.bump (eventKind n.event)) s.notices.suppressed } }
      else if i = 52 ∧ v ≠ 0 then stored.emitNotices
      else stored) 3 .ok))

/-- O55. Write Entry on every other table but CRANES: what it is refused with, and what an accepted one stores (R18 to
R20, R29, R77, R79, R107, R113, R134, R182). A flag byte other than 0 or 1, and bits where a kind has no field, are
the model's free choice (log entries 11 and 12); BAD_INDEX before BAD_VALUE on CELLS, GEOMETRY, PATHS, PROFILES and
REEFERS is the model's order (log entry 13); the result value is 0 (log entry 24). -/
def Obligations.EntriesWritten : Prop :=
  ∀ (s : State), s.alone →
    (∀ i a, (4 ≤ i → exec (.writeManagers i a) s = .next (s.ruled 3 .badIndex)) ∧
      (i < 4 → exec (.writeManagers i a) s = .next (({ s with endpoint := { s.endpoint with
        managers := s.endpoint.managers.set i a } } : State).ruled 3 .ok))) ∧
    (∀ i f,
      let stored := fun (q : Fin 4) (present : Bool) => .next (({ s with classifier := { s.classifier with
        cells := s.classifier.cells.set i {
          present := present, quayPort := q, label := f.label
          portUp := present && (s.store.port (portOf q.val)).up } } } : State).ruled 3 .ok)
      (32 ≤ i → exec (.writeCells i f) s = .next (s.ruled 3 .badIndex)) ∧
      (i < 32 → 3 < f.quayPort.toNat → exec (.writeCells i f) s = .next (s.ruled 3 .badValue)) ∧
      (i < 32 → ∀ q : Fin 4, f.quayPort.toNat = q.val →
        (f.present = 0 → exec (.writeCells i f) s = stored q false) ∧
        (f.present = 1 → exec (.writeCells i f) s = stored q true) ∧
        (exec (.writeCells i f) s = .next (s.ruled 3 .badValue) ∨ ∃ b, exec (.writeCells i f) s = stored q b))) ∧
    (∀ i (g : Byte),
      (255 ≤ i → exec (.writeGeometry i g) s = .next (s.ruled 3 .badIndex)) ∧
      (i < 255 → 63 < g.toNat → g ≠ 255 → exec (.writeGeometry i g) s = .next (s.ruled 3 .badValue)) ∧
      (i < 255 → g = 255 → exec (.writeGeometry i g) s = .next (({ s with paths := { s.paths with
        geometry := s.paths.geometry.set i none } } : State).ruled 3 .ok)) ∧
      (∀ k : Segment, i < 255 → g.toNat = k.val → exec (.writeGeometry i g) s = .next (({ s with paths := { s.paths with
        geometry := s.paths.geometry.set i (some k) } } : State).ruled 3 .ok))) ∧
    (∀ f, bearerFieldsFaulty f → readBearer f = none) ∧
    (∀ f, ¬bearerFieldsFaulty f → bearerFieldsClean f → (readBearer f).isSome) ∧
    (∀ i f,
      (i = 0 ∨ 4096 ≤ i → exec (.writeBearers i f) s = .next (s.ruled 3 .badIndex)) ∧
      (1 ≤ i → i < 4096 →
        (readBearer f = none → exec (.writeBearers i f) s = .next (s.ruled 3 .badValue)) ∧
        (∀ d, readBearer f = some d →
          (s.misdirects i d → exec (.writeBearers i f) s = .next (s.ruled 3 .badValue)) ∧
          (¬s.misdirects i d → s.engaged (s.bearer i).treatment ∨ s.engaged d.treatment →
            exec (.writeBearers i f) s = .next (s.ruled 3 .busy)) ∧
          (¬s.misdirects i d → ¬s.engaged (s.bearer i).treatment → ¬s.engaged d.treatment →
            exec (.writeBearers i f) s = .next ((s.setBearer i { d with
              touched := false, level := if d.coarse then d.burst * 65536 else d.burst * 1024, stamp := s.quayTime
              framesPassed := 0, bytesPassed := 0, framesPoliced := 0 }).ruled 3 .ok))))) ∧
    (∀ i (p a : Byte),
      let bad := fun b : Byte => 31 < b.toNat ∧ b ≠ 255
      (1024 ≤ i → exec (.writePaths i p a) s = .next (s.ruled 3 .badIndex)) ∧
      (i < 1024 → bad p ∨ bad a → exec (.writePaths i p a) s = .next (s.ruled 3 .badValue)) ∧
      (i < 1024 → ∀ e : PathEntry, putCell e.primary = [p] → putCell e.alternate = [a] →
        exec (.writePaths i p a) s = .next (({ s with paths := { s.paths with
          staged := s.paths.staged.set i e } } : State).ruled 3 .ok))) ∧
    (∀ i f,
      (16 ≤ i → exec (.writeProfiles i f) s = .next (s.ruled 3 .badIndex)) ∧
      (i < 16 → profileFaulty f → exec (.writeProfiles i f) s = .next (s.ruled 3 .badValue)) ∧
      (i < 16 → ¬profileFaulty f → ∃ p, readProfile f = some p ∧
        exec (.writeProfiles i f) s = .next (({ s with registry := { s.registry with
          profiles := s.registry.profiles.set i p } } : State).ruled 3 .ok))) ∧
    (∀ i f,
      let stored := fun (registered : Bool) (p : Fin 16) (g : Option Segment) => .next (({ s with
        registry := { s.registry with
          slots := s.registry.slots.set i {
            config := { registered := registered, mark := f.mark, profile := p, segment := g }, record := .never }
          changeList := s.registry.changeList.filter fun k => decide (k.val ≠ i) } } : State).ruled 3 .ok)
      (2048 ≤ i → exec (.writeReefers i f) s = .next (s.ruled 3 .badIndex)) ∧
      (i < 2048 → markFaulty f.mark ∨ 15 < f.profile.toNat ∨ (63 < f.segment.toNat ∧ f.segment ≠ 255) →
        exec (.writeReefers i f) s = .next (s.ruled 3 .badValue)) ∧
      (i < 2048 → ¬markFaulty f.mark → ∀ (p : Fin 16) (g : Option Segment), f.profile.toNat = p.val →
        putSegment g = [f.segment] →
        (f.registered = 0 → exec (.writeReefers i f) s = stored false p g) ∧
        (f.registered = 1 → exec (.writeReefers i f) s = stored true p g) ∧
        (exec (.writeReefers i f) s = .next (s.ruled 3 .badValue) ∨ ∃ b, exec (.writeReefers i f) s = stored b p g))) ∧
    ∀ i, exec (.writeCoverage i) s = .next (s.ruled 3 .badTable)

/-- O56. Clear Entries on every table but CRANES: a count of 0, a range beyond the table and an engaged bearer are
refused, and an accepted clear gives each entry of the range its cleared value (R21, R29, R77, R79, R108, R114, R135,
R182, R186, R187). A count of 0 refused before a range beyond the table, and that, or index 0 on BEARERS, before BUSY,
and the first refusal in index order giving the code on SETTINGS, are the model's choices (log entries 13 and 17), and
so is the result value 0 (log entry 24). -/
def Obligations.EntriesCleared : Prop :=
  ∀ (s : State) (first count : Nat), s.alone →
    refusesRange 4 first count (.clearManagers first count) s ∧
    refusesRange 32 first count (.clearCells first count) s ∧
    refusesRange 256 first count (.clearGeometry first count) s ∧
    refusesRange 4096 first count (.clearBearers first count) s ∧
    refusesRange 1024 first count (.clearPaths first count) s ∧
    refusesRange 16 first count (.clearProfiles first count) s ∧
    refusesRange 2048 first count (.clearReefers first count) s ∧
    refusesRange 2048 first count (.clearCoverage first count) s ∧
    refusesRange 54 first count (.clearSettings first count) s ∧
    (0 < count →
      (first + count ≤ 4 → ∃ t : State, exec (.clearManagers first count) s = .next (t.ruled 4 .ok) ∧
        t = { s with endpoint := { s.endpoint with managers := t.endpoint.managers } } ∧
        ∀ i, t.endpoint.managers.get i = if inRange first count i then 0 else s.endpoint.managers.get i) ∧
      (first + count ≤ 32 → ∃ t : State, exec (.clearCells first count) s = .next (t.ruled 4 .ok) ∧
        t = { s with classifier := { s.classifier with cells := t.classifier.cells } } ∧
        ∀ i, t.classifier.cells.get i = if inRange first count i then {
          present := false, quayPort := 0, label := 0, portUp := false } else s.classifier.cells.get i) ∧
      (first + count ≤ 256 → ∃ t : State, exec (.clearGeometry first count) s = .next (t.ruled 4 .ok) ∧
        t = { s with paths := { s.paths with geometry := t.paths.geometry } } ∧
        ∀ i, t.paths.geometry.get i = if inRange first count i then none else s.paths.geometry.get i) ∧
      (first = 0 → count ≤ 4096 → exec (.clearBearers first count) s = .next (s.ruled 4 .badIndex)) ∧
      (0 < first → first + count ≤ 4096 →
        ((∃ i, inRange first count i ∧ s.engaged (s.bearer i).treatment) →
          exec (.clearBearers first count) s = .next (s.ruled 4 .busy)) ∧
        ((∀ i, inRange first count i → ¬s.engaged (s.bearer i).treatment) →
          ∃ t : State, exec (.clearBearers first count) s = .next (t.ruled 4 .ok) ∧
            t = { s with classifier := { s.classifier with bearers := t.classifier.bearers } } ∧
            ∀ i, t.bearer i = if inRange first count i then {
              treatment := .absent, cls := 0, rate := 0, coarse := false, burst := 1, demote := false, homeCell := none
              touched := false, level := 1024, stamp := s.quayTime, framesPassed := 0, bytesPassed := 0
              framesPoliced := 0 } else s.bearer i)) ∧
      (first + count ≤ 1024 → ∃ t : State, exec (.clearPaths first count) s = .next (t.ruled 4 .ok) ∧
        t = { s with paths := { s.paths with staged := t.paths.staged } } ∧
        ∀ i, t.paths.staged.get i = if inRange first count i then ⟨none, none⟩ else s.paths.staged.get i) ∧
      (first + count ≤ 16 → ∃ t : State, exec (.clearProfiles first count) s = .next (t.ruled 4 .ok) ∧
        t = { s with registry := { s.registry with profiles := t.registry.profiles } } ∧
        ∀ i, t.registry.profiles.get i = if inRange first count i then {
          highMargin := 30, lowMargin := 30, hysteresis := 10, spikeStep := 20, band := 20, reportDelta := 5
          staleTime := 900, lostTime := 3600, highEdges := .both, lowEdges := .both, powerEdges := .enter
          alarmEdges := .enter, staleEdges := .both, highLevel := 4, lowLevel := 4, powerLevel := 3, alarmLevel := 4
          staleLevel := 3 } else s.registry.profiles.get i) ∧
      (first + count ≤ 2048 → ∃ t : State, exec (.clearReefers first count) s = .next (t.ruled 4 .ok) ∧
        t = { s with registry := { s.registry with
          slots := t.registry.slots
          changeList := s.registry.changeList.filter fun i => decide (¬inRange first count i.val) } } ∧
        ∀ i, t.registry.slots.get i = if inRange first count i then {
          config := {
            registered := false, mark := [0x41, 0x41, 0x41, 0x41, 0x30, 0x30, 0x30, 0x30, 0x30, 0x30, 0x30]
            profile := 0, segment := none }
          record := .never } else s.registry.slots.get i) ∧
      (first + count ≤ 2048 → ∃ t : State, exec (.clearCoverage first count) s = .next (t.ruled 4 .ok) ∧
        t = { s with coverage := { s.coverage with entries := t.coverage.entries } } ∧
        ∀ i, t.cover i = if inRange first count i then {
          state := .unknown, estimate := 0, count := 0, lastTime := 0, age := none } else s.cover i) ∧
      (first + count ≤ 54 →
        (∀ k < count, (∀ j < k,
          settingCode s (first + j) (Settings.coldValue s.identity (first + j)) = .ok) →
          settingCode s (first + k) (Settings.coldValue s.identity (first + k)) ≠ .ok →
          exec (.clearSettings first count) s = .next (s.ruled 4
            (settingCode s (first + k) (Settings.coldValue s.identity (first + k))))) ∧
        ((∀ k < count, settingCode s (first + k) (Settings.coldValue s.identity (first + k)) = .ok) →
          ∃ t : State, exec (.clearSettings first count) s = .next (t.ruled 4 .ok) ∧
            t = ((List.range count).foldl (fun u k =>
              storeSetting (first + k) (Settings.coldValue s.identity (first + k)) u) s) ∧
            (∀ i, t.setting i = if inRange first count i then Settings.coldValue s.identity i else s.setting i) ∧
            t = { s with
              settings := t.settings, summary := t.summary, notices := t.notices, store := t.store })))

/-- O57. The commands that read, and the one that reaches no owner: their refusals in order, the data they return, its
size and where each field stands in it (the entries of the tables in O60); nothing changes but the result shown (R176,
R183, R184, R186, R188, R189, R197, R198). A count of 0 refused before the range, and the offset before the count in
Capture Read, are the model's order (log entry 13); that a command without an owner (unknown code or table, or too
short for its code or table) runs as BAD_COMMAND, and that a carried length below 4 is too short for every code, are
deduced (log entry 18), and so is a number cut to its field (log entry 21); the result value 0 is the model's choice
(log entry 24). -/
def Obligations.CommandsThatRead : Prop :=
  ∀ (s : State), s.alone →
    exec .identify s = .next (s.returned 1 (put16 s.identity.vendorCode.toNat ++ put16 s.identity.partCode.toNat ++
      put16 s.identity.revision.toNat ++ put48 s.identity.station.toNat ++
      put16 s.identity.managementEtherType.toNat ++ put16 s.identity.defaultBearerEtherType.toNat ++
      put32 s.quayTime.toNat)) ∧
    (∀ (table : Byte) (first count : Nat),
      (tableShape table.toNat = none → exec (.readEntries table first count) s = .next (s.ruled 2 .badTable)) ∧
      (∀ n size, tableShape table.toNat = some (n, size) →
        (count = 0 → exec (.readEntries table first count) s = .next (s.ruled 2 .badValue)) ∧
        (0 < count → n < first + count → exec (.readEntries table first count) s = .next (s.ruled 2 .badIndex)) ∧
        (0 < count → first + count ≤ n →
          let data := (List.range count).flatMap fun k => entryData s table.toNat (first + k)
          exec (.readEntries table first count) s = .next (s.returned 2 data) ∧
          (s.sizesLegal → data.length = count * size ∧
            ∀ k < count, bytesAt data (k * size) size = entryData s table.toNat (first + k))))) ∧
    ([0, 1, 2, 3, 4, 5, 6, 7, 8, 9, 10, 11].map tableShape =
      [none, some (54, 6), some (4, 6), some (32, 6), some (256, 1), some (4096, 32), some (16, 192), some (1024, 4),
        some (16, 24), some (2048, 64), some (2048, 16), none]) ∧
    (∀ (group : Byte) (first count : Nat),
      let whole : Prop := 1 ≤ group.toNat ∧ group.toNat ≤ 10 ∧ group ≠ 3 ∧ group ≠ 4
      let entries : Nat := if group = 3 then 4096 else 16
      (group.toNat < 1 ∨ 10 < group.toNat →
        exec (.statisticsRead group first count) s = .next (s.ruled 7 .badValue)) ∧
      (group = 3 ∨ group = 4 → count = 0 → exec (.statisticsRead group first count) s = .next (s.ruled 7 .badValue)) ∧
      (group = 3 ∨ group = 4 → 0 < count → entries < first + count →
        exec (.statisticsRead group first count) s = .next (s.ruled 7 .badIndex)) ∧
      (whole ∨ ((group = 3 ∨ group = 4) ∧ 0 < count ∧ first + count ≤ entries) →
        exec (.statisticsRead group first count) s = .next (s.returned 7 (groupData s group.toNat first count)) ∧
        (groupData s group.toNat first count).length = resultSize (.statisticsRead group first count))) ∧
    (∀ (first count : Nat),
      let ports := groupData s 1 first count
      let queues := groupData s 2 first count
      (ports.length = 124 ∧ (∀ p, fieldsAt ports (24 * portNumber p) (portLayout s p)) ∧
        fieldsAt ports 120 [(0, bigEndian 4 s.store.noCell.toNat)]) ∧
      (queues.length = 496 ∧
        (∀ p c, fieldsAt queues (24 * (4 * portNumber p + c.val)) (queueLayout s p c)) ∧
        (∀ p, fieldsAt queues (480 + 2 * portNumber p)
          [(0, bigEndian 1 (s.store.port p).turn.val), (1, bigEndian 1 (s.store.port p).credit)]) ∧
        fieldsAt queues 490 [(0, bigEndian 2 s.store.free), (2, bigEndian 2 s.store.least), (4, bigEndian 2 0)]) ∧
      ((groupData s 3 first count).length = 12 * count ∧ ∀ k < count,
        fieldsAt (groupData s 3 first count) (12 * k) (bearerCountLayout (s.bearer (first + k)))) ∧
      ((groupData s 4 first count).length = 22 * count ∧ ∀ k < count, ∀ l : Link, l.val = first + k →
        fieldsAt (groupData s 4 first count) (22 * k) (craneCountLayout (s.link l).counts)) ∧
      (s.canonical → laidOut (groupData s 5 first count) 28 (coverageLayout s) ∧
        laidOut (groupData s 6 first count) 28 (registryLayout s)) ∧
      laidOut (groupData s 7 first count) 32 (summaryLayout s) ∧
      (s.notices.queue = [] → laidOut (groupData s 8 first count) 32 (noticeGroupLayout s.notices 0)) ∧
      (∀ low, (∃ m ∈ s.notices.queue, m.level = low) → (∀ m ∈ s.notices.queue, low ≤ m.level) →
        laidOut (groupData s 8 first count) 32 (noticeGroupLayout s.notices low)) ∧
      laidOut (groupData s 9 first count) 20 (captureGroupLayout s.capture) ∧
      laidOut (groupData s 10 first count) 12 (managementLayout s.endpoint)) ∧
    (∀ (offset count : Nat),
      let held := (s.capture.buffer.drop offset).take count
      (255 < offset → exec (.captureRead offset count) s = .next (s.ruled 11 .badIndex)) ∧
      (offset ≤ 255 → count = 0 ∨ 32 < count → exec (.captureRead offset count) s = .next (s.ruled 11 .badValue)) ∧
      (offset ≤ 255 → 1 ≤ count → count ≤ 32 →
        exec (.captureRead offset count) s = .next (s.returned 11 (captureStatus s.capture held.length ++
          held.flatMap putCaptureEntry ++ zeros (16 * count - 16 * held.length))) ∧
        laidOut (captureStatus s.capture held.length) 12 (captureStatusLayout s.capture held.length) ∧
        (held.flatMap putCaptureEntry).length = 16 * held.length ∧
        ∀ k e, held[k]? = some e → laidOut (bytesAt (held.flatMap putCaptureEntry) (16 * k) 16) 16
          (captureEntryLayout e))) ∧
    ([0, 1, 2, 3, 4, 5, 6, 7, 8, 9, 10, 11, 12, 13, 14].map fixedArguments =
      [none, some 0, some 6, some 4, some 6, some 3, some 2, some 6, some 0, some 30, some 0, some 3, some 0, some 0,
        none]) ∧
    ∀ w : WireCommand,
      (w.code.toNat < 1 ∨ 13 < w.code.toNat → decodeCommand w = .badCommand w) ∧
      (∀ n, fixedArguments w.code = some n → w.carried.toNat < 4 ∨ w.args.length < n →
        decodeCommand w = .badCommand w) ∧
      (4 ≤ w.carried.toNat →
        let table := (byteAt w.args 0).toNat
        let unknown : Prop := table < 1 ∨ 10 < table
        let cut : Prop := ∃ size,
          (table, size) ∈ [(1, 6), (2, 6), (3, 4), (4, 1), (5, 10), (6, 86), (7, 2), (8, 24), (9, 14)] ∧
          w.args.length < 4 + size
        (w.code = 3 → 4 ≤ w.args.length → unknown ∨ cut → decodeCommand w = .badCommand w) ∧
        (w.code = 4 → 6 ≤ w.args.length → unknown → decodeCommand w = .badCommand w) ∧
        (∀ n, fixedArguments w.code = some n → n ≤ w.args.length → (w.code = 3 → ¬unknown ∧ ¬cut) →
          (w.code = 4 → ¬unknown) →
          managementCode (decodeCommand w) = some w.code ∧ ∀ v, decodeCommand w ≠ .badCommand v)) ∧
      (w.code.toNat < 1 ∨ 13 < w.code.toNat → exec (.badCommand w) s = .next (s.ruled w.code .badCommand)) ∧
      (∀ n, fixedArguments w.code = some n → w.carried.toNat < 4 ∨ w.args.length < n →
        exec (.badCommand w) s = .next (s.ruled w.code .badValue)) ∧
      (∀ n, fixedArguments w.code = some n → 4 ≤ w.carried.toNat → n ≤ w.args.length →
        ((byteAt w.args 0).toNat < 1 ∨ 10 < (byteAt w.args 0).toNat →
          exec (.badCommand w) s = .next (s.ruled w.code .badTable)) ∧
        (1 ≤ (byteAt w.args 0).toNat → (byteAt w.args 0).toNat ≤ 10 →
          exec (.badCommand w) s = .next (s.ruled w.code .badValue)))

/-- O58. Statistics Clear sets every counter to 0 and the least free mark to the free count, and leaves everything
else (R17, R33, R43, R71, R109, R136, R149, R161, R178, R189, R191). The result value 0 is the model's choice (log
entry 24). -/
def Obligations.StatisticsCleared : Prop :=
  ∀ (s : State), s.alone → ∃ t : State, exec .statisticsClear s = .next (t.ruled 8 .ok) ∧
    t = { s with
      classifier := { s.classifier with bearers := t.classifier.bearers, counts := t.classifier.counts }
      store := { s.store with
        ports := t.store.ports, queues := t.store.queues, least := s.store.free, noCell := 0 }
      links := t.links
      coverage := { s.coverage with
        taken := 0, skipped := 0, shadowed := 0, discarded := 0, holesSet := 0, holesCleared := 0, aged := 0 }
      registry := { s.registry with
        slots := t.registry.slots, taken := 0, unregistered := 0, mismatched := 0, repeated := 0, accepted := 0
        absorbed := 0 }
      summary := { s.summary with
        framesSent := 0, recordsSent := 0, framesRefused := 0, passesCompleted := 0, passesDeferred := 0, overruns := 0 }
      notices := { s.notices with
        suppressed := .zero, lost := 0, framesSent := 0, noticesSent := 0, framesRefused := 0 }
      capture := { s.capture with matchesA := 0, matchesB := 0, recorded := 0, triggers := 0 }
      endpoint := { s.endpoint with executed := 0, rejected := 0, malformed := 0, overrun := 0, repliesLost := 0 } } ∧
    (∀ i, t.bearer i = { s.bearer i with framesPassed := 0, bytesPassed := 0, framesPoliced := 0 }) ∧
    (∀ p, t.arrivals p = { framesReceived := 0, foreign := 0, malformed := 0 }) ∧
    (∀ p, t.store.port p = { s.store.port p with receiveErrors := 0, linkLosses := 0, framesSent := 0, bytesSent := 0 }) ∧
    (∀ p c, t.store.queue p c = { s.store.queue p c with
      admitted := 0, fullRefusals := 0, poolRefusals := 0, linkDownRefusals := 0, flushed := 0 }) ∧
    (∀ l, t.link l = { s.link l with counts := {
      duplicates := 0, late := 0, gapFrames := 0, controlExcess := 0, strayFrames := 0, holdsEntered := 0
      holdsSent := 0, holdsDeferred := 0, tokensIgnored := 0, pathChanges := 0, noPath := 0 } }) ∧
    ∀ i, t.slot i = { s.slot i with record := { (s.slot i).record with mismatches := 0, duplicates := 0 } }

/-- O59. A Restart is answered OK, in a request with NOT_RUN for the commands after it and the reply offered first
(R190); then every block passes to its warm values (R23, R45, R73, R75, R111, R138, R150, R163, R180, R191). The store
passes through `m`, the traffic in flight cut off and flushed but for that reply (its mark is the model's own, log
entry 16, as are the result values 0, log entry 24), whereupon the yard port selects; the links of `b` left in HOLD
then make a hold order attempt each, in rising order (log entry 14), which is sent or deferred. -/
def Obligations.RestartTakesEffect : Prop :=
  (∀ s : State, s.alone → exec .restart s = .next (warmRestart (s.ruled 13 .ok))) ∧
  (∀ (s : State) (e : Execution), s.endpoint.executing = some e → e.cannotRun 0 = false →
    let results := e.results ++ [{ code := 13, result := .ok, value := 0, data := [] }] ++
      (e.request.commands.drop (e.results.length + 1)).map fun w =>
        { code := w.code, result := .notRun, value := 0, data := [] }
    let shown := s.ruled 13 .ok
    let offered := shown.offer .y 1 none .restartReply (replyFrame s.identity e.request results)
    (offered.1 = .admitted → exec .restart s = .next (warmRestart { offered.2 with endpoint := { shown.endpoint with
      executing := none, executed := s.endpoint.executed + 1 } })) ∧
    ∀ cause, offered.1 = .refused cause → exec .restart s =
      .next (warmRestart { offered.2 with endpoint := { shown.endpoint with
        executing := none, repliesLost := bump16 s.endpoint.repliesLost } })) ∧
  ∀ s : State,
    let t := warmRestart s
    let working := fun l : Link => (s.link l).state = .arming ∨ (s.link l).isWorking
    t = { s with
      classifier := { s.classifier with bearers := t.classifier.bearers }
      store := { s.store with
        ports := t.store.ports, queues := t.store.queues, free := t.store.free, least := t.store.least }
      links := t.links, paths := { s.paths with active := t.paths.active }
      coverage := { s.coverage with entries := t.coverage.entries }
      registry := { s.registry with slots := t.registry.slots, changeList := [] }
      summary := { s.summary with passing := false, timer := later s.quayTime (s.setting 48 * 1000) }
      notices := { s.notices with queue := [], pacing := none }
      capture := { s.capture with state := .off, buffer := [], triggerCount := 0, postCount := 0, traceCount := 0 }
      endpoint := { s.endpoint with requests := [], executing := none } } ∧
    t.bearer 0 = .cold ∧ (∀ i, i ≠ 0 → t.bearer i = { s.bearer i with
      level := if (s.bearer i).coarse then (s.bearer i).burst * 65536 else (s.bearer i).burst * 1024
      stamp := s.quayTime }) ∧
    (∀ i, t.cover i = { s.cover i with state := .unknown, count := 0, age := none }) ∧
    (∀ i, t.slot i = { s.slot i with record := { ReeferRecord.never with
      mismatches := (s.slot i).record.mismatches, duplicates := (s.slot i).record.duplicates } }) ∧
    (∀ p, (t.store.port p).up = (s.store.port p).up ∧ (t.store.port p).receiveErrors = (s.store.port p).receiveErrors ∧
      (t.store.port p).linkLosses = (s.store.port p).linkLosses ∧
      (t.store.port p).framesSent = (s.store.port p).framesSent ∧
      (t.store.port p).bytesSent = (s.store.port p).bytesSent) ∧
    (∀ p c, ∀ e ∈ (t.store.queue p c).entries, e.origin = .holdOrder ∨
      ∃ b ∈ (s.store.queue p c).entries, b.origin = .restartReply ∧ b.frame = e.frame) ∧
    (∃ (m : FrameStore) (b : State),
      let spared := fun e : QueueEntry => decide (e.origin = .restartReply)
      let settled := fun e : QueueEntry => if e.origin = .restartReply then { e with origin := .reply } else e
      (∀ p, m.port p = { s.store.port p with
        turn := 3, credit := 0
        tx := match (s.store.port p).tx with
          | none => none
          | some x =>
            if x.entry.origin ≠ .restartReply then none
            else if p = .y then some { x with entry := settled x.entry }
            else some x }) ∧
      (∀ p c,
        let q := s.store.queue p c
        m.queue p c = { q with
          entries := if p = .y ∧ c = 1 then (q.entries.filter spared).map settled else q.entries.filter spared
          flushed := q.flushed + BitVec.ofNat 32 ((q.entries.filter fun e => !spared e).length +
            (match (s.store.port p).tx with
              | none => 0
              | some x => if x.cls = c ∧ x.entry.origin ≠ .restartReply then 1 else 0)) }) ∧
      m.free + m.held = s.store.free + s.store.held ∧ m.least = m.free ∧ m.noCell = s.store.noCell ∧
      b = { t with store := m.select s.settings .y, links := b.links } ∧
      (∀ l, ¬(s.link l).isHeld → b.link l = t.link l) ∧
      (∀ l, (s.link l).isHeld → b.link l = { s.link l with
        state := .hold, releaseExpiry := none, upDeadline := none, upAlive := false, previous := []
        overlapExpiry := none }) ∧
      t = ((List.finRange 16).filter fun l => decide ((b.link l).state = .hold)).foldl (fun u l =>
        let w := holdAttempt l u
        w.setLink l { w.link l with nextHold := some (later s.quayTime (s.link l).config.period) }) b) ∧
    (∀ l, (s.link l).state = .idle → t.link l = s.link l) ∧
    (∀ l, working l → t.link l = { s.link l with
      state := .arming, missed := 0, streak := 0, upDeadline := none, downDeadline := none, upAlive := false
      upSeq := none, downSeq := none, lastSent := none, segment := none, boom := .unknown, reason := .none
      releaseExpiry := none, nextHold := none, resolved := [], previous := [], overlapExpiry := none, pathPoor := false
      commitPending := false, applyNow := false }) ∧
    (∀ l, (s.link l).isHeld →
      let k := s.link l
      t.link l = { k with
        state := .hold, releaseExpiry := none, upDeadline := none, upAlive := false, previous := []
        overlapExpiry := none, nextHold := some (later s.quayTime k.config.period)
        holdCounter := (t.link l).holdCounter, lastSent := (t.link l).lastSent
        counts := { k.counts with
          holdsSent := (t.link l).counts.holdsSent, holdsDeferred := (t.link l).counts.holdsDeferred } } ∧
      (((t.link l).counts.holdsSent = bump16 k.counts.holdsSent ∧
          (t.link l).counts.holdsDeferred = k.counts.holdsDeferred ∧ (t.link l).holdCounter = k.holdCounter + 1 ∧
          (t.link l).lastSent = some k.holdSequence) ∨
        ((t.link l).counts.holdsSent = k.counts.holdsSent ∧
          (t.link l).counts.holdsDeferred = bump16 k.counts.holdsDeferred ∧
          (t.link l).holdCounter = k.holdCounter ∧ (t.link l).lastSent = k.lastSent))) ∧
    ∀ l g,
      (working l → (s.link l).commitPending = true →
        t.paths.active.get (pathIndex l g) = s.paths.staged.get (pathIndex l g)) ∧
      (¬working l ∨ (s.link l).commitPending = false →
        t.paths.active.get (pathIndex l g) = s.paths.active.get (pathIndex l g))

/-- O60. What a Write Entry stores is what was carried, and Read Entries returns it: the configuration bytes of an
accepted entry of CELLS, BEARERS, CRANES, PROFILES and REEFERS read back as they were written (R186, R196 to R198),
those of an ABSENT descriptor at their cold values (R18); and the entries of all ten tables stand in the layouts of
R198, with the codes of R192, R196 and R198, the bytes beyond a template as 0 (R198), a number cut to its field
(deduced, log entry 21), and a last report counter of none as 0, the model's choice (log entry 26). -/
def Obligations.WrittenEntriesReadBack : Prop :=
  (∀ (b : List Byte) (up : Bool) (v : Bool × Fin 4 × BitVec 16), b.length = 4 → byteAt b 0 = 0 ∨ byteAt b 0 = 1 →
    readCell (decodeCell b) = some v →
    putCellEntry { present := v.1, quayPort := v.2.1, label := v.2.2, portUp := up } = b ++ putFlag up ++ [0]) ∧
  (∀ (b : List Byte) (d : Descriptor) (now : QuayTime), b.length = 10 → byteAt b 0 ≠ 0 →
    bearerFieldsClean (decodeBearer b) → (byteAt b 1).toNat < 32 → readBearer (decodeBearer b) = some d →
    (putDescriptor (d.written now)).take 9 = b.take 9) ∧
  (∀ (b : List Byte) (d : Descriptor) (now : QuayTime), b.length = 10 → byteAt b 0 = 0 →
    bearerFieldsClean (decodeBearer b) → readBearer (decodeBearer b) = some d →
    (putDescriptor (d.written now)).take 9 = [0, 0, 0, 0, 1, 255, 255, 0, 0]) ∧
  (∀ (b : List Byte) (c : CraneConfig), b.length = 86 → readCrane (decodeCrane b) = some c →
    putCraneConfig c = b.take (22 + (byteAt b 9).toNat) ++ zeros (64 - (byteAt b 9).toNat)) ∧
  (∀ (b : List Byte) (p : Profile), b.length = 24 → readProfile (decodeProfile b) = some p →
    putProfile p = b.take 22 ++ [0, 0]) ∧
  (∀ (b : List Byte) (c : ReeferConfig), b.length = 14 → byteAt b 0 = 0 ∨ byteAt b 0 = 1 →
    readReefer (decodeReefer b) = some c →
    putFlag c.registered ++ c.mark ++ put8 c.profile.val ++ putSegment c.segment = b) ∧
  (∀ (c : Option Cell) (g : Option Segment), (∀ x, putCell c = [x] → cellField x = some c) ∧
    ∀ x, putSegment g = [x] → segmentField x = some g) ∧
  (∀ s : State,
    (∀ i, laidOut (entryData s 1 i) 6 [(0, bigEndian 6 (s.setting i))]) ∧
    (∀ i, laidOut (entryData s 2 i) 6 [(0, bigEndian 6 (s.endpoint.managers.get i).toNat)]) ∧
    (∀ c : Cell, laidOut (entryData s 3 c.val) 6 (cellLayout (s.cell c))) ∧
    (∀ i, laidOut (entryData s 4 i) 1 [(0, placeByte (s.paths.geometry.get i))]) ∧
    (∀ i, laidOut (entryData s 5 i) 32 (descriptorLayout (s.bearer i))) ∧
    (∀ l : Link, s.sizesLegal → laidOut (entryData s 6 l.val) 192 (craneLayout (s.link l))) ∧
    (∀ i,
      let staged := s.paths.staged.get i
      let active := s.paths.active.get i
      laidOut (entryData s 7 i) 4 [(0, placeByte staged.primary), (1, placeByte staged.alternate),
        (2, placeByte active.primary), (3, placeByte active.alternate)]) ∧
    (∀ i, laidOut (entryData s 8 i) 24 (profileLayout (s.registry.profiles.get i))) ∧
    (∀ i : Slot, s.sizesLegal → laidOut (entryData s 9 i.val) 64 (reeferLayout (s.slot i))) ∧
    ∀ i, laidOut (entryData s 10 i) 16 (coverLayout (s.cover i))) ∧
  [.idle, .arming, .live, .degraded, .hold, .releasing].map craneStateCode = [1, 2, 3, 4, 5, 6] ∧
  [.none, .deadline, .managed].map holdReasonCode = [0, 1, 2] ∧ [.unknown, .up, .down].map boomCode = [0, 1, 2] ∧
  [.never, .fresh, .stale, .lost].map freshnessCode = [0, 1, 2, 3] ∧
  [none, some .on, some .off, some .defrost].map powerCode = [0, 1, 2, 3] ∧
  [none, some .up, some .down].map directionCode = [0, 1, 2] ∧ [.unknown, .good, .hole].map coverCode = [0, 1, 2] ∧
  [.none, .enter, .leave, .both].map edgeCode = [0, 1, 2, 3] ∧
  [.off, .armed, .sequence, .post, .tracing, .frozen].map captureStateCode = [0, 1, 2, 3, 4, 5] ∧
  [.countA, .countAOrB, .countAAndB, .bThenCountA, .aThenTrace, .trace].map captureModeCode = [1, 2, 3, 4, 5, 6] ∧
  [.management, .dropMalformed, .dropNull, .dropAbsent, .dropRedirectFault, .dropPoliced, .dropDuplicate, .dropLate,
    .dropHeld, .dropNoPath, .dropNoCell, .dropQueueFull, .dropPool, .absorbed, .forwarded].map dispositionCode =
    [1, 2, 3, 4, 5, 6, 7, 8, 9, 10, 11, 12, 13, 14, 15]
end

