-- ==== Sys2Proof/Laws/Layout.lean ====
section
/-! SUPPORT. The layouts of chapter 11: the fields of a layout are what the writers of Machine/Layout.lean put, and bytes
that are the fields of a layout one after the other are laid out so. -/

namespace Sys2Proof.Machine

/-! ### Fields -/

theorem bigEndian_one (n : Nat) : bigEndian 1 n = put8 n := by simp [bigEndian, put8, List.range_succ]

theorem bigEndian_two (n : Nat) : bigEndian 2 n = put16 n := by simp [bigEndian, put16, List.range_succ]

theorem bigEndian_four (n : Nat) : bigEndian 4 n = put32 n := by
  simp [bigEndian, put32, put16, List.range_succ, Nat.div_div_eq_div_mul]

theorem bigEndian_six (n : Nat) : bigEndian 6 n = put48 n := by
  simp [bigEndian, put48, put32, put16, List.range_succ, Nat.div_div_eq_div_mul]

theorem bigEndian_zero (size : Nat) : bigEndian size 0 = zeros size := by
  simp [bigEndian, zeros, List.map_const']

theorem flagByte_eq (b : Bool) : flagByte b = putFlag b := by cases b <;> simp [flagByte, putFlag, bigEndian_one]

theorem flagBits_eq (bits : List Bool) : flagBits bits = bitsOf bits := by
  have key : ∀ (l : List Bool) (k : Nat),
      ((l.zipIdx k).map fun b => if b.1 then 2 ^ b.2 else 0).sum = 2 ^ k * bitsOf l := by
    intro l
    induction l with
    | nil => intro k; simp [bitsOf]
    | cons b r ih =>
      intro k
      rw [List.zipIdx_cons, List.map_cons, List.sum_cons, ih, bitsOf]
      cases b <;> simp [pow_succ] <;> ring
  simpa [flagBits] using key bits 0

theorem tempBytes_eq (t : Option Int) : tempBytes t = putTemp t := by
  cases t <;> simp [tempBytes, putTemp, bigEndian_two, tempWord]

theorem timeBytes_eq (t : Option QuayTime) : timeBytes t = putTime t := by
  cases t <;> simp [timeBytes, putTime, bigEndian_four]

theorem sequenceBytes_eq (q : Option Sequence) : sequenceBytes q = putSequence q := by
  cases q <;> simp [sequenceBytes, putSequence, bigEndian_two]

theorem placeByte_cell (c : Option Cell) : placeByte c = putCell c := by
  cases c <;> simp [placeByte, putCell, bigEndian_one]

theorem placeByte_segment (g : Option Segment) : placeByte g = putSegment g := by
  cases g <;> simp [placeByte, putSegment, bigEndian_one]

theorem cellBytes_eq {cells : List Cell} {places : Nat} (h : cells.length ≤ places) :
    cellBytes places cells = putCells cells places := by
  simp only [cellBytes, putCells, bigEndian_one, List.append_assoc]
  congr 1
  induction places generalizing cells with
  | zero => obtain rfl : cells = [] := List.eq_nil_of_length_eq_zero (by omega); rfl
  | succ n ih =>
    rw [List.range_succ_eq_map, List.flatMap_cons, List.flatMap_map]
    cases cells with
    | nil => have := ih (cells := []) (by simp); simpa [placeByte, bigEndian_one, put8, List.replicate_succ] using this
    | cons c cs => have := ih (cells := cs) (by simpa using h); simpa [placeByte, bigEndian_one] using this

/-! ### Lengths of what the writers put -/

@[simp] theorem put8_length (n : Nat) : (put8 n).length = 1 := rfl
@[simp] theorem put16_length (n : Nat) : (put16 n).length = 2 := rfl
@[simp] theorem put32_length (n : Nat) : (put32 n).length = 4 := rfl
@[simp] theorem put48_length (n : Nat) : (put48 n).length = 6 := rfl
@[simp] theorem zeros_length (n : Nat) : (zeros n).length = n := by simp [zeros]
@[simp] theorem putFlag_length (b : Bool) : (putFlag b).length = 1 := rfl
@[simp] theorem putTemp_length (t : Option Int) : (putTemp t).length = 2 := by cases t <;> rfl
@[simp] theorem putTime_length (t : Option QuayTime) : (putTime t).length = 4 := by cases t <;> rfl
@[simp] theorem putSequence_length (q : Option Sequence) : (putSequence q).length = 2 := by cases q <;> rfl
@[simp] theorem putCell_length (c : Option Cell) : (putCell c).length = 1 := by cases c <;> rfl
@[simp] theorem putSegment_length (g : Option Segment) : (putSegment g).length = 1 := by cases g <;> rfl

theorem padTo_length {n : Nat} {bytes : List Byte} (h : bytes.length ≤ n) : (padTo n bytes).length = n := by
  simp only [padTo, List.length_append, zeros_length]; omega

theorem putCells_length {cells : List Cell} {places : Nat} (h : cells.length ≤ places) :
    (putCells cells places).length = places + 1 := by
  have key : ∀ l : List Cell, (l.flatMap fun c => put8 c.val).length = l.length := by
    intro l
    induction l with
    | nil => rfl
    | cons c r ih => simp only [List.flatMap_cons, List.length_append, put8_length, List.length_cons, ih]; omega
  simp only [putCells, List.length_append, put8_length, key, List.length_replicate]; omega

/-- The send set of a link has a place for every cell of its two sets (R90). -/
theorem CraneLink.sendSet_length (k : CraneLink) : k.sendSet.length ≤ k.resolved.length + k.previous.length := by
  have := List.length_filter_le (fun c => !k.resolved.contains c) k.previous
  simpa [CraneLink.sendSet, cellsBeyond] using this

/-! ### Records -/

theorem fieldsAt_nil (data : List Byte) (start : Nat) : fieldsAt data start [] := by simp [fieldsAt]

theorem fieldsAt_cons (data : List Byte) (start : Nat) (f : Nat × List Byte) (rest : List (Nat × List Byte)) :
    fieldsAt data start (f :: rest) ↔ bytesAt data (start + f.1) f.2.length = f.2 ∧ fieldsAt data start rest := by
  simp [fieldsAt]

theorem fieldsAt_append (data : List Byte) (start : Nat) (a b : List (Nat × List Byte)) :
    fieldsAt data start (a ++ b) ↔ fieldsAt data start a ∧ fieldsAt data start b := by
  simp only [fieldsAt, List.mem_append]
  exact ⟨fun h => ⟨fun f hf => h f (.inl hf), fun f hf => h f (.inr hf)⟩,
    fun h f hf => hf.elim (h.1 f) (h.2 f)⟩

/-- Bytes between others are what is read at their place. -/
theorem bytesAt_append {a : List Byte} {i : Nat} (b c : List Byte) (h : a.length = i) :
    bytesAt (a ++ (b ++ c)) i b.length = b := by subst h; simp [bytesAt]

/-- The fields of a layout follow one another from an offset on, without a gap. -/
def follows (o : Nat) : List (Nat × List Byte) → Prop
  | [] => True
  | f :: rest => f.1 = o ∧ follows (o + f.2.length) rest

/-- A record whose fields follow one another, put after some bytes and before others, has its fields at their
offsets. -/
theorem fieldsAt_of_follows {fields : List (Nat × List Byte)} {a : List Byte} {start o : Nat} (b : List Byte)
    (hf : follows o fields) (ha : a.length = start + o) :
    fieldsAt (a ++ (fields.flatMap Prod.snd ++ b)) start fields := by
  induction fields generalizing a o with
  | nil => exact fieldsAt_nil _ _
  | cons f rest ih =>
    obtain ⟨h1, h2⟩ := hf
    rw [fieldsAt_cons]
    constructor
    · rw [List.flatMap_cons, List.append_assoc]; exact bytesAt_append _ _ (by omega)
    · have := ih (a := a ++ f.2) h2 (by simp; omega)
      simpa [List.append_assoc] using this

/-- A record that is its fields one after the other is laid out so. -/
theorem laidOut_of_follows {data : List Byte} {size : Nat} {fields : List (Nat × List Byte)}
    (hd : data = fields.flatMap Prod.snd) (hs : data.length = size) (hf : follows 0 fields) :
    laidOut data size fields := by
  have := fieldsAt_of_follows (a := []) (start := 0) [] hf rfl
  exact ⟨hs, by simpa [hd] using this⟩

end Sys2Proof.Machine
end

