-- ==== Sys2Proof/Laws/State.lean ====
section
/-! SUPPORT. One lemma for each field and each update of the state: what the update leaves in the field. All are true by
unfolding, so that no later proof unfolds a record update. -/

namespace Sys2Proof.Machine


/-! ### State.setLink -/

@[simp] theorem State.setLink_quayTime (s : State) (l : Link) (v : CraneLink) :
    (s.setLink l v).quayTime = s.quayTime := rfl
@[simp] theorem State.setLink_lineTime (s : State) (l : Link) (v : CraneLink) :
    (s.setLink l v).lineTime = s.lineTime := rfl
@[simp] theorem State.setLink_identity (s : State) (l : Link) (v : CraneLink) :
    (s.setLink l v).identity = s.identity := rfl
@[simp] theorem State.setLink_settings (s : State) (l : Link) (v : CraneLink) :
    (s.setLink l v).settings = s.settings := rfl
@[simp] theorem State.setLink_classifier (s : State) (l : Link) (v : CraneLink) :
    (s.setLink l v).classifier = s.classifier := rfl
@[simp] theorem State.setLink_store (s : State) (l : Link) (v : CraneLink) : (s.setLink l v).store = s.store := rfl
@[simp] theorem State.setLink_paths (s : State) (l : Link) (v : CraneLink) : (s.setLink l v).paths = s.paths := rfl
@[simp] theorem State.setLink_coverage (s : State) (l : Link) (v : CraneLink) :
    (s.setLink l v).coverage = s.coverage := rfl
@[simp] theorem State.setLink_registry (s : State) (l : Link) (v : CraneLink) :
    (s.setLink l v).registry = s.registry := rfl
@[simp] theorem State.setLink_summary (s : State) (l : Link) (v : CraneLink) :
    (s.setLink l v).summary = s.summary := rfl
@[simp] theorem State.setLink_notices (s : State) (l : Link) (v : CraneLink) :
    (s.setLink l v).notices = s.notices := rfl
@[simp] theorem State.setLink_capture (s : State) (l : Link) (v : CraneLink) :
    (s.setLink l v).capture = s.capture := rfl
@[simp] theorem State.setLink_endpoint (s : State) (l : Link) (v : CraneLink) :
    (s.setLink l v).endpoint = s.endpoint := rfl
@[simp] theorem State.setLink_pending (s : State) (l : Link) (v : CraneLink) :
    (s.setLink l v).pending = s.pending := rfl
@[simp] theorem State.setLink_links (s : State) (l : Link) (v : CraneLink) :
    (s.setLink l v).links = s.links.set l.val v := rfl

/-! ### State.setBearer -/

@[simp] theorem State.setBearer_quayTime (s : State) (i : Nat) (d : Descriptor) :
    (s.setBearer i d).quayTime = s.quayTime := rfl
@[simp] theorem State.setBearer_lineTime (s : State) (i : Nat) (d : Descriptor) :
    (s.setBearer i d).lineTime = s.lineTime := rfl
@[simp] theorem State.setBearer_identity (s : State) (i : Nat) (d : Descriptor) :
    (s.setBearer i d).identity = s.identity := rfl
@[simp] theorem State.setBearer_settings (s : State) (i : Nat) (d : Descriptor) :
    (s.setBearer i d).settings = s.settings := rfl
@[simp] theorem State.setBearer_store (s : State) (i : Nat) (d : Descriptor) : (s.setBearer i d).store = s.store := rfl
@[simp] theorem State.setBearer_links (s : State) (i : Nat) (d : Descriptor) : (s.setBearer i d).links = s.links := rfl
@[simp] theorem State.setBearer_paths (s : State) (i : Nat) (d : Descriptor) : (s.setBearer i d).paths = s.paths := rfl
@[simp] theorem State.setBearer_coverage (s : State) (i : Nat) (d : Descriptor) :
    (s.setBearer i d).coverage = s.coverage := rfl
@[simp] theorem State.setBearer_registry (s : State) (i : Nat) (d : Descriptor) :
    (s.setBearer i d).registry = s.registry := rfl
@[simp] theorem State.setBearer_summary (s : State) (i : Nat) (d : Descriptor) :
    (s.setBearer i d).summary = s.summary := rfl
@[simp] theorem State.setBearer_notices (s : State) (i : Nat) (d : Descriptor) :
    (s.setBearer i d).notices = s.notices := rfl
@[simp] theorem State.setBearer_capture (s : State) (i : Nat) (d : Descriptor) :
    (s.setBearer i d).capture = s.capture := rfl
@[simp] theorem State.setBearer_endpoint (s : State) (i : Nat) (d : Descriptor) :
    (s.setBearer i d).endpoint = s.endpoint := rfl
@[simp] theorem State.setBearer_pending (s : State) (i : Nat) (d : Descriptor) :
    (s.setBearer i d).pending = s.pending := rfl
@[simp] theorem State.setBearer_classifier (s : State) (i : Nat) (d : Descriptor) :
    (s.setBearer i d).classifier = { s.classifier with bearers := s.classifier.bearers.set i d } := rfl

/-! ### State.setArrivals -/

@[simp] theorem State.setArrivals_quayTime (s : State) (p : Port) (c : ArrivalCounts) :
    (s.setArrivals p c).quayTime = s.quayTime := rfl
@[simp] theorem State.setArrivals_lineTime (s : State) (p : Port) (c : ArrivalCounts) :
    (s.setArrivals p c).lineTime = s.lineTime := rfl
@[simp] theorem State.setArrivals_identity (s : State) (p : Port) (c : ArrivalCounts) :
    (s.setArrivals p c).identity = s.identity := rfl
@[simp] theorem State.setArrivals_settings (s : State) (p : Port) (c : ArrivalCounts) :
    (s.setArrivals p c).settings = s.settings := rfl
@[simp] theorem State.setArrivals_store (s : State) (p : Port) (c : ArrivalCounts) :
    (s.setArrivals p c).store = s.store := rfl
@[simp] theorem State.setArrivals_links (s : State) (p : Port) (c : ArrivalCounts) :
    (s.setArrivals p c).links = s.links := rfl
@[simp] theorem State.setArrivals_paths (s : State) (p : Port) (c : ArrivalCounts) :
    (s.setArrivals p c).paths = s.paths := rfl
@[simp] theorem State.setArrivals_coverage (s : State) (p : Port) (c : ArrivalCounts) :
    (s.setArrivals p c).coverage = s.coverage := rfl
@[simp] theorem State.setArrivals_registry (s : State) (p : Port) (c : ArrivalCounts) :
    (s.setArrivals p c).registry = s.registry := rfl
@[simp] theorem State.setArrivals_summary (s : State) (p : Port) (c : ArrivalCounts) :
    (s.setArrivals p c).summary = s.summary := rfl
@[simp] theorem State.setArrivals_notices (s : State) (p : Port) (c : ArrivalCounts) :
    (s.setArrivals p c).notices = s.notices := rfl
@[simp] theorem State.setArrivals_capture (s : State) (p : Port) (c : ArrivalCounts) :
    (s.setArrivals p c).capture = s.capture := rfl
@[simp] theorem State.setArrivals_endpoint (s : State) (p : Port) (c : ArrivalCounts) :
    (s.setArrivals p c).endpoint = s.endpoint := rfl
@[simp] theorem State.setArrivals_pending (s : State) (p : Port) (c : ArrivalCounts) :
    (s.setArrivals p c).pending = s.pending := rfl
@[simp] theorem State.setArrivals_classifier (s : State) (p : Port) (c : ArrivalCounts) :
    (s.setArrivals p c).classifier = { s.classifier with counts := s.classifier.counts.set (portNumber p) c } := rfl

/-! ### State.setRecord -/

@[simp] theorem State.setRecord_quayTime (s : State) (i : Slot) (r : ReeferRecord) :
    (s.setRecord i r).quayTime = s.quayTime := rfl
@[simp] theorem State.setRecord_lineTime (s : State) (i : Slot) (r : ReeferRecord) :
    (s.setRecord i r).lineTime = s.lineTime := rfl
@[simp] theorem State.setRecord_identity (s : State) (i : Slot) (r : ReeferRecord) :
    (s.setRecord i r).identity = s.identity := rfl
@[simp] theorem State.setRecord_settings (s : State) (i : Slot) (r : ReeferRecord) :
    (s.setRecord i r).settings = s.settings := rfl
@[simp] theorem State.setRecord_classifier (s : State) (i : Slot) (r : ReeferRecord) :
    (s.setRecord i r).classifier = s.classifier := rfl
@[simp] theorem State.setRecord_store (s : State) (i : Slot) (r : ReeferRecord) :
    (s.setRecord i r).store = s.store := rfl
@[simp] theorem State.setRecord_links (s : State) (i : Slot) (r : ReeferRecord) :
    (s.setRecord i r).links = s.links := rfl
@[simp] theorem State.setRecord_paths (s : State) (i : Slot) (r : ReeferRecord) :
    (s.setRecord i r).paths = s.paths := rfl
@[simp] theorem State.setRecord_coverage (s : State) (i : Slot) (r : ReeferRecord) :
    (s.setRecord i r).coverage = s.coverage := rfl
@[simp] theorem State.setRecord_summary (s : State) (i : Slot) (r : ReeferRecord) :
    (s.setRecord i r).summary = s.summary := rfl
@[simp] theorem State.setRecord_notices (s : State) (i : Slot) (r : ReeferRecord) :
    (s.setRecord i r).notices = s.notices := rfl
@[simp] theorem State.setRecord_capture (s : State) (i : Slot) (r : ReeferRecord) :
    (s.setRecord i r).capture = s.capture := rfl
@[simp] theorem State.setRecord_endpoint (s : State) (i : Slot) (r : ReeferRecord) :
    (s.setRecord i r).endpoint = s.endpoint := rfl
@[simp] theorem State.setRecord_pending (s : State) (i : Slot) (r : ReeferRecord) :
    (s.setRecord i r).pending = s.pending := rfl
@[simp] theorem State.setRecord_registry (s : State) (i : Slot) (r : ReeferRecord) :
    (s.setRecord i r).registry =
      { s.registry with slots := s.registry.slots.set i.val { s.slot i with record := r } } := rfl

/-! ### State.withExecuting -/

@[simp] theorem State.withExecuting_quayTime (s : State) (e : Option Execution) :
    (s.withExecuting e).quayTime = s.quayTime := rfl
@[simp] theorem State.withExecuting_lineTime (s : State) (e : Option Execution) :
    (s.withExecuting e).lineTime = s.lineTime := rfl
@[simp] theorem State.withExecuting_identity (s : State) (e : Option Execution) :
    (s.withExecuting e).identity = s.identity := rfl
@[simp] theorem State.withExecuting_settings (s : State) (e : Option Execution) :
    (s.withExecuting e).settings = s.settings := rfl
@[simp] theorem State.withExecuting_classifier (s : State) (e : Option Execution) :
    (s.withExecuting e).classifier = s.classifier := rfl
@[simp] theorem State.withExecuting_store (s : State) (e : Option Execution) :
    (s.withExecuting e).store = s.store := rfl
@[simp] theorem State.withExecuting_links (s : State) (e : Option Execution) :
    (s.withExecuting e).links = s.links := rfl
@[simp] theorem State.withExecuting_paths (s : State) (e : Option Execution) :
    (s.withExecuting e).paths = s.paths := rfl
@[simp] theorem State.withExecuting_coverage (s : State) (e : Option Execution) :
    (s.withExecuting e).coverage = s.coverage := rfl
@[simp] theorem State.withExecuting_registry (s : State) (e : Option Execution) :
    (s.withExecuting e).registry = s.registry := rfl
@[simp] theorem State.withExecuting_summary (s : State) (e : Option Execution) :
    (s.withExecuting e).summary = s.summary := rfl
@[simp] theorem State.withExecuting_notices (s : State) (e : Option Execution) :
    (s.withExecuting e).notices = s.notices := rfl
@[simp] theorem State.withExecuting_capture (s : State) (e : Option Execution) :
    (s.withExecuting e).capture = s.capture := rfl
@[simp] theorem State.withExecuting_pending (s : State) (e : Option Execution) :
    (s.withExecuting e).pending = s.pending := rfl
@[simp] theorem State.withExecuting_endpoint (s : State) (e : Option Execution) :
    (s.withExecuting e).endpoint = { s.endpoint with executing := e } := rfl

/-! ### showAnswer -/

@[simp] theorem showAnswer_quayTime (a : Answer) (s : State) : (showAnswer a s).quayTime = s.quayTime := rfl
@[simp] theorem showAnswer_lineTime (a : Answer) (s : State) : (showAnswer a s).lineTime = s.lineTime := rfl
@[simp] theorem showAnswer_identity (a : Answer) (s : State) : (showAnswer a s).identity = s.identity := rfl
@[simp] theorem showAnswer_settings (a : Answer) (s : State) : (showAnswer a s).settings = s.settings := rfl
@[simp] theorem showAnswer_classifier (a : Answer) (s : State) : (showAnswer a s).classifier = s.classifier := rfl
@[simp] theorem showAnswer_store (a : Answer) (s : State) : (showAnswer a s).store = s.store := rfl
@[simp] theorem showAnswer_links (a : Answer) (s : State) : (showAnswer a s).links = s.links := rfl
@[simp] theorem showAnswer_paths (a : Answer) (s : State) : (showAnswer a s).paths = s.paths := rfl
@[simp] theorem showAnswer_coverage (a : Answer) (s : State) : (showAnswer a s).coverage = s.coverage := rfl
@[simp] theorem showAnswer_registry (a : Answer) (s : State) : (showAnswer a s).registry = s.registry := rfl
@[simp] theorem showAnswer_summary (a : Answer) (s : State) : (showAnswer a s).summary = s.summary := rfl
@[simp] theorem showAnswer_notices (a : Answer) (s : State) : (showAnswer a s).notices = s.notices := rfl
@[simp] theorem showAnswer_capture (a : Answer) (s : State) : (showAnswer a s).capture = s.capture := rfl
@[simp] theorem showAnswer_pending (a : Answer) (s : State) : (showAnswer a s).pending = s.pending := rfl
@[simp] theorem showAnswer_endpoint (a : Answer) (s : State) :
    (showAnswer a s).endpoint = { s.endpoint with answer := some a } := rfl

/-! ### FrameStore.setPort -/

@[simp] theorem FrameStore.setPort_queues (st : FrameStore) (p : Port) (v : PortState) :
    (st.setPort p v).queues = st.queues := rfl
@[simp] theorem FrameStore.setPort_free (st : FrameStore) (p : Port) (v : PortState) :
    (st.setPort p v).free = st.free := rfl
@[simp] theorem FrameStore.setPort_least (st : FrameStore) (p : Port) (v : PortState) :
    (st.setPort p v).least = st.least := rfl
@[simp] theorem FrameStore.setPort_noCell (st : FrameStore) (p : Port) (v : PortState) :
    (st.setPort p v).noCell = st.noCell := rfl

/-! ### FrameStore.setQueue -/

@[simp] theorem FrameStore.setQueue_ports (st : FrameStore) (p : Port) (c : Class) (q : Queue) :
    (st.setQueue p c q).ports = st.ports := rfl
@[simp] theorem FrameStore.setQueue_free (st : FrameStore) (p : Port) (c : Class) (q : Queue) :
    (st.setQueue p c q).free = st.free := rfl
@[simp] theorem FrameStore.setQueue_least (st : FrameStore) (p : Port) (c : Class) (q : Queue) :
    (st.setQueue p c q).least = st.least := rfl
@[simp] theorem FrameStore.setQueue_noCell (st : FrameStore) (p : Port) (c : Class) (q : Queue) :
    (st.setQueue p c q).noCell = st.noCell := rfl

/-! ### FrameStore.giveBack -/

@[simp] theorem FrameStore.giveBack_ports (st : FrameStore) (n : Nat) : (st.giveBack n).ports = st.ports := rfl
@[simp] theorem FrameStore.giveBack_queues (st : FrameStore) (n : Nat) : (st.giveBack n).queues = st.queues := rfl
@[simp] theorem FrameStore.giveBack_least (st : FrameStore) (n : Nat) : (st.giveBack n).least = st.least := rfl
@[simp] theorem FrameStore.giveBack_noCell (st : FrameStore) (n : Nat) : (st.giveBack n).noCell = st.noCell := rfl
@[simp] theorem FrameStore.giveBack_free (st : FrameStore) (n : Nat) : (st.giveBack n).free = st.free + n := rfl

/-! ### FrameStore.take -/

@[simp] theorem FrameStore.take_ports (st : FrameStore) (n : Nat) : (st.take n).ports = st.ports := rfl
@[simp] theorem FrameStore.take_queues (st : FrameStore) (n : Nat) : (st.take n).queues = st.queues := rfl
@[simp] theorem FrameStore.take_noCell (st : FrameStore) (n : Nat) : (st.take n).noCell = st.noCell := rfl
@[simp] theorem FrameStore.take_free (st : FrameStore) (n : Nat) : (st.take n).free = st.free - n := rfl
@[simp] theorem FrameStore.take_least (st : FrameStore) (n : Nat) :
    (st.take n).least = min st.least (st.free - n) := rfl

end Sys2Proof.Machine
end

