-- ==== Sys2Proof/Laws/Table.lean ====
section
/-! SUPPORT. The laws of keyed tables: what an index reads after each operation, and that every operation keeps the
canonical form. -/

namespace Sys2Proof.Machine

variable {α : Type}

/-! ### Lists of entries -/

theorem Table.lookup_without_same (l : List (Nat × α)) (k : Nat) : Table.lookup (Table.without l k) k = none := by
  induction l with
  | nil => rfl
  | cons e r ih =>
    obtain ⟨j, v⟩ := e
    by_cases h : j = k
    · simp [Table.without, h, ih]
    · simp [Table.without, Table.lookup, h, ih]

theorem Table.lookup_without_other (l : List (Nat × α)) {j k : Nat} (h : j ≠ k) :
    Table.lookup (Table.without l k) j = Table.lookup l j := by
  induction l with
  | nil => rfl
  | cons e r ih =>
    obtain ⟨i, v⟩ := e
    by_cases hi : i = k
    · subst hi
      simp [Table.without, Table.lookup, Ne.symm h, ih]
    · by_cases hj : i = j
      · subst hj; simp [Table.without, Table.lookup, hi]
      · simp [Table.without, Table.lookup, hi, hj, ih]

theorem Table.lookup_place_same (l : List (Nat × α)) (k : Nat) (v : α) (h : Table.lookup l k = none) :
    Table.lookup (Table.place l k v) k = some v := by
  induction l with
  | nil => simp [Table.place, Table.lookup]
  | cons e r ih =>
    obtain ⟨j, w⟩ := e
    have hj : j ≠ k := fun e => by simp [Table.lookup, e] at h
    have hr : Table.lookup r k = none := by simpa [Table.lookup, hj] using h
    by_cases hk : k < j
    · simp [Table.place, hk, Table.lookup]
    · simp [Table.place, hk, Table.lookup, hj, ih hr]

theorem Table.lookup_place_other (l : List (Nat × α)) {j k : Nat} (v : α) (h : j ≠ k) :
    Table.lookup (Table.place l k v) j = Table.lookup l j := by
  induction l with
  | nil => simp [Table.place, Table.lookup, Ne.symm h]
  | cons e r ih =>
    obtain ⟨i, w⟩ := e
    by_cases hk : k < i
    · simp [Table.place, hk, Table.lookup, Ne.symm h]
    · by_cases hj : i = j
      · subst hj; simp [Table.place, hk, Table.lookup]
      · simp [Table.place, hk, Table.lookup, hj, ih]

/-! ### What an index reads -/

@[simp] theorem Table.get_all (a : α) (k : Nat) : (Table.all a).get k = a := rfl

@[simp] theorem Table.get_set_same [DecidableEq α] (t : Table α) (k : Nat) (v : α) : (t.set k v).get k = v := by
  unfold Table.get Table.set
  split
  · simp [Table.lookup_without_same, *]
  · simp [Table.lookup_place_same _ _ _ (Table.lookup_without_same _ _)]

theorem Table.get_set_other [DecidableEq α] (t : Table α) {j k : Nat} (v : α) (h : j ≠ k) :
    (t.set k v).get j = t.get j := by
  unfold Table.get Table.set
  split
  · simp [Table.lookup_without_other _ h]
  · simp [Table.lookup_place_other _ _ h, Table.lookup_without_other _ h]

theorem Table.get_set [DecidableEq α] (t : Table α) (j k : Nat) (v : α) :
    (t.set k v).get j = if j = k then v else t.get j := by
  split
  · subst_vars; simp
  · exact Table.get_set_other t v ‹_›

/-- Removing an index twice removes it once. -/
theorem Table.without_without (l : List (Nat × α)) (k : Nat) :
    Table.without (Table.without l k) k = Table.without l k := by
  induction l with
  | nil => rfl
  | cons e r ih =>
    obtain ⟨j, w⟩ := e
    by_cases h : j = k <;> simp [Table.without, h, ih]

/-- Removing an index that has just been put at its place leaves the list without it. -/
theorem Table.without_place (l : List (Nat × α)) (k : Nat) (v : α) :
    Table.without (Table.place l k v) k = Table.without l k := by
  induction l with
  | nil => simp [Table.place, Table.without]
  | cons e r ih =>
    obtain ⟨j, w⟩ := e
    by_cases hk : k < j
    · simp [Table.place, hk, Table.without]
    · by_cases h : j = k <;> simp [Table.place, Table.without, hk, h, ih]

/-- Of two writes of one index the later stands. -/
@[simp] theorem Table.set_set [DecidableEq α] (t : Table α) (k : Nat) (v w : α) : (t.set k v).set k w = t.set k w := by
  have h : Table.without (t.set k v).listed k = Table.without t.listed k := by
    unfold Table.set
    by_cases hv : v = t.blank <;> simp [hv, Table.without_without, Table.without_place]
  have hb : (t.set k v).blank = t.blank := rfl
  by_cases hw : w = t.blank
  · show ({ blank := _, listed := _ } : Table α) = _
    simp only [hb, hw, h]; simp [Table.set]
  · show ({ blank := _, listed := _ } : Table α) = _
    simp only [hb, hw, h]; simp [Table.set, hw]

theorem Table.get_modify [DecidableEq α] (t : Table α) (j k : Nat) (f : α → α) :
    (t.modify k f).get j = if j = k then f (t.get k) else t.get j := Table.get_set t j k _

@[simp] theorem Table.get_map [DecidableEq α] (t : Table α) (f : α → α) (k : Nat) :
    (t.map f).get k = f (t.get k) := by
  obtain ⟨b, l⟩ := t
  simp only [Table.map, Table.get]
  induction l with
  | nil => rfl
  | cons e r ih =>
    obtain ⟨j, v⟩ := e
    show Table.get _ k = _
    simp only [List.foldr_cons, Table.get_set, Table.lookup]
    by_cases h : k = j
    · simp [h]
    · simp only [h, if_false, Ne.symm h]
      exact ih

theorem Table.get_fill [DecidableEq α] (t : Table α) (first n : Nat) (v : α) (k : Nat) :
    (t.fill first n v).get k = if first ≤ k ∧ k < first + n then v else t.get k := by
  induction n generalizing t first with
  | zero => simp [Table.fill]
  | succ n ih =>
    rw [Table.fill, ih]
    by_cases h : k = first
    · subst h; simp
    · rw [Table.get_set_other _ _ h]
      by_cases h' : first ≤ k ∧ k < first + (n + 1)
      · rw [if_pos h', if_pos (by omega)]
      · rw [if_neg h', if_neg (by omega)]

theorem Table.get_modifyRange [DecidableEq α] (t : Table α) (first n : Nat) (f : α → α) (k : Nat) :
    (t.modifyRange first n f).get k = if first ≤ k ∧ k < first + n then f (t.get k) else t.get k := by
  induction n generalizing t first with
  | zero => simp [Table.modifyRange]
  | succ n ih =>
    rw [Table.modifyRange, ih, Table.get_modify]
    by_cases h : k = first
    · subst h; simp
    · simp only [h, if_false]
      by_cases h' : first ≤ k ∧ k < first + (n + 1)
      · rw [if_pos h', if_pos (by omega)]
      · rw [if_neg h', if_neg (by omega)]

/-! ### The canonical form -/

/-- The keys of a canonical list are greater than a bound, rising, and no value is the blank. -/
theorem Table.wfFrom_cons [DecidableEq α] (blank : α) (j : Nat) (v : α) (r : List (Nat × α)) :
    Table.wfFrom blank ((j, v) :: r) = true ↔
      v ≠ blank ∧ (∀ e ∈ r, j < e.1) ∧ Table.wfFrom blank r = true := by
  induction r generalizing j v with
  | nil => simp [Table.wfFrom]
  | cons e r ih =>
    obtain ⟨k, w⟩ := e
    have := ih k w
    simp only [Table.wfFrom, Bool.and_eq_true, decide_eq_true_eq, List.mem_cons, forall_eq_or_imp]
    constructor
    · rintro ⟨⟨hv, hj⟩, hw⟩
      exact ⟨hv, ⟨hj, fun e he => Nat.lt_trans hj ((this.1 hw).2.1 e he)⟩, hw⟩
    · rintro ⟨hv, ⟨hj, _⟩, hw⟩
      exact ⟨⟨hv, hj⟩, hw⟩

theorem Table.mem_without {l : List (Nat × α)} {k : Nat} {e : Nat × α} (h : e ∈ Table.without l k) : e ∈ l := by
  induction l with
  | nil => simp [Table.without] at h
  | cons a r ih =>
    obtain ⟨j, v⟩ := a
    by_cases hj : j = k
    · simp only [Table.without, hj, if_true] at h; exact List.mem_cons_of_mem _ (ih h)
    · simp only [Table.without, hj, if_false, List.mem_cons] at h
      rcases h with h | h
      · simp [h]
      · exact List.mem_cons_of_mem _ (ih h)

theorem Table.without_key {l : List (Nat × α)} {k : Nat} {e : Nat × α} (h : e ∈ Table.without l k) : e.1 ≠ k := by
  induction l with
  | nil => simp [Table.without] at h
  | cons a r ih =>
    obtain ⟨j, v⟩ := a
    by_cases hj : j = k
    · simp only [Table.without, hj, if_true] at h; exact ih h
    · simp only [Table.without, hj, if_false, List.mem_cons] at h
      rcases h with h | h
      · simpa [h] using hj
      · exact ih h

theorem Table.mem_place {l : List (Nat × α)} {k : Nat} {v : α} {e : Nat × α} (h : e ∈ Table.place l k v) :
    e = (k, v) ∨ e ∈ l := by
  induction l with
  | nil => simpa [Table.place] using h
  | cons a r ih =>
    obtain ⟨j, w⟩ := a
    by_cases hk : k < j
    · simpa [Table.place, hk] using h
    · simp only [Table.place, hk, if_false, List.mem_cons] at h ⊢
      rcases h with h | h
      · exact .inr (.inl h)
      · rcases ih h with h | h
        · exact .inl h
        · exact .inr (.inr h)

theorem Table.wfFrom_without [DecidableEq α] (blank : α) (l : List (Nat × α)) (k : Nat)
    (h : Table.wfFrom blank l = true) : Table.wfFrom blank (Table.without l k) = true := by
  induction l with
  | nil => exact h
  | cons a r ih =>
    obtain ⟨j, v⟩ := a
    obtain ⟨hv, hj, hr⟩ := (Table.wfFrom_cons _ _ _ _).1 h
    by_cases hk : j = k
    · simpa [Table.without, hk] using ih hr
    · simp only [Table.without, hk, if_false]
      exact (Table.wfFrom_cons _ _ _ _).2 ⟨hv, fun e he => hj e (Table.mem_without he), ih hr⟩

theorem Table.wfFrom_place [DecidableEq α] (blank : α) (l : List (Nat × α)) (k : Nat) (v : α)
    (h : Table.wfFrom blank l = true) (hk : ∀ e ∈ l, e.1 ≠ k) (hv : v ≠ blank) :
    Table.wfFrom blank (Table.place l k v) = true := by
  induction l with
  | nil => simpa [Table.place, Table.wfFrom] using hv
  | cons a r ih =>
    obtain ⟨j, w⟩ := a
    obtain ⟨hw, hj, hr⟩ := (Table.wfFrom_cons _ _ _ _).1 h
    have hjk : j ≠ k := hk (j, w) (by simp)
    by_cases hlt : k < j
    · simp only [Table.place, hlt, if_true]
      refine (Table.wfFrom_cons _ _ _ _).2 ⟨hv, fun e he => ?_, h⟩
      rcases List.mem_cons.1 he with he | he
      · simpa [he] using hlt
      · exact Nat.lt_trans hlt (hj e he)
    · simp only [Table.place, hlt, if_false]
      refine (Table.wfFrom_cons _ _ _ _).2
        ⟨hw, fun e he => ?_, ih hr fun e he => hk e (List.mem_cons_of_mem _ he)⟩
      rcases Table.mem_place he with he | he
      · simp only [he]; omega
      · exact hj e he

theorem Table.wf_all [DecidableEq α] (a : α) : (Table.all a).wf = true := rfl

theorem Table.wf_set [DecidableEq α] (t : Table α) (k : Nat) (v : α) (h : t.wf = true) : (t.set k v).wf = true := by
  unfold Table.wf Table.set
  split
  · exact Table.wfFrom_without _ _ _ h
  · exact Table.wfFrom_place _ _ _ _ (Table.wfFrom_without _ _ _ h) (fun _ he => Table.without_key he) ‹_›

theorem Table.wf_modify [DecidableEq α] (t : Table α) (k : Nat) (f : α → α) (h : t.wf = true) :
    (t.modify k f).wf = true := Table.wf_set t k _ h

theorem Table.wf_map [DecidableEq α] (t : Table α) (f : α → α) : (t.map f).wf = true := by
  obtain ⟨b, l⟩ := t
  simp only [Table.map]
  induction l with
  | nil => rfl
  | cons e r ih => exact Table.wf_set _ _ _ ih

theorem Table.wf_fill [DecidableEq α] (t : Table α) (first n : Nat) (v : α) (h : t.wf = true) :
    (t.fill first n v).wf = true := by
  induction n generalizing t first with
  | zero => exact h
  | succ n ih => exact ih _ _ (Table.wf_set _ _ _ h)

theorem Table.wf_modifyRange [DecidableEq α] (t : Table α) (first n : Nat) (f : α → α) (h : t.wf = true) :
    (t.modifyRange first n f).wf = true := by
  induction n generalizing t first with
  | zero => exact h
  | succ n ih => exact ih _ _ (Table.wf_modify _ _ _ h)

/-! ### Counting -/

/-- Of a canonical list, one more key below a bound adds its value, if it is listed and meets the test. -/
theorem Table.filter_below_succ [DecidableEq α] (blank : α) (l : List (Nat × α)) (n : Nat) (p : α → Bool)
    (h : Table.wfFrom blank l = true) :
    (l.filter fun e => decide (e.1 < n + 1) && p e.2).length =
      (l.filter fun e => decide (e.1 < n) && p e.2).length + ((Table.lookup l n).elim 0 fun v => (p v).toNat) := by
  induction l with
  | nil => rfl
  | cons e r ih =>
    obtain ⟨j, v⟩ := e
    obtain ⟨-, hj, hr⟩ := (Table.wfFrom_cons _ _ _ _).1 h
    rw [List.filter_cons, List.filter_cons]
    by_cases hn : j = n
    · subst hn
      have none : ∀ b ≤ j + 1, (r.filter fun e => decide (e.1 < b) && p e.2) = [] := by
        intro b hb
        rw [List.filter_eq_nil_iff]
        intro e he
        have := hj e he
        rw [decide_eq_false (by omega)]; simp
      rw [none _ (Nat.le_refl _), none j (by omega)]
      cases hp : p v <;> simp [Table.lookup, hp]
    · have := ih hr
      rw [show Table.lookup ((j, v) :: r) n = Table.lookup r n by simp [Table.lookup, hn]]
      rw [show decide ((j, v).1 < n + 1) = decide ((j, v).1 < n) by
        rw [decide_eq_decide]; show j < n + 1 ↔ j < n; omega]
      split
      · rw [List.length_cons, List.length_cons]; omega
      · exact this

/-- The number of indices below a bound that meet a test, in a canonical table. -/
theorem Table.countBelow_eq [DecidableEq α] (t : Table α) (bound : Nat) (p : α → Bool) (h : t.wf = true) :
    t.countBelow bound p = ((List.range bound).filter fun i => p (t.get i)).length := by
  have key : ∀ n, t.countListed n (fun _ => true) ≤ n ∧
      t.countListed n p + (if p t.blank then n - t.countListed n (fun _ => true) else 0) =
        ((List.range n).filter fun i => p (t.get i)).length := by
    intro n
    induction n with
    | zero => simp [Table.countListed]
    | succ n ih =>
      have h1 : t.countListed (n + 1) p = _ := Table.filter_below_succ _ _ n p h
      have h2 : t.countListed (n + 1) (fun _ => true) = _ := Table.filter_below_succ _ _ n (fun _ => true) h
      rw [List.range_succ, List.filter_append, List.length_append, ← ih.2, h1, h2]
      have e1 : (t.listed.filter fun e => decide (e.1 < n) && p e.2).length = t.countListed n p := rfl
      have e2 : (t.listed.filter fun e => decide (e.1 < n) && true).length = t.countListed n (fun _ => true) := rfl
      rw [e1, e2]
      obtain ⟨ih1, -⟩ := ih
      rw [List.filter_cons, List.filter_nil]
      unfold Table.get
      generalize t.countListed n p = listed
      generalize t.countListed n (fun _ => true) = all at ih1 ⊢
      rcases Table.lookup t.listed n with - | v
      · simp only [Option.elim_none, Option.getD_none, Nat.add_zero]
        by_cases hb : p t.blank = true <;> simp only [hb] <;> refine ⟨by omega, ?_⟩ <;> first | (simp; done) | (simp; omega)
      · simp only [Option.elim_some, Option.getD_some, Bool.toNat_true]
        by_cases hb : p t.blank = true <;> by_cases hv : p v = true <;> simp only [hb, hv] <;>
          refine ⟨by omega, ?_⟩ <;> first | (simp; done) | (simp; omega)
  exact (key bound).2

end Sys2Proof.Machine
end

