-- ==== Sys2Proof/Laws/Ops.lean ====
section
/-! SUPPORT. What each shared operation can do, said once: the accessors after an update, the outcomes of an offer and
of a selection, and the parts of the state that the operations on notices, frames and links leave alone. -/

namespace Sys2Proof.Machine

/-! ### Accessors after updates -/

theorem portNumber_inj {p q : Port} : portNumber p = portNumber q ↔ p = q := by cases p <;> cases q <;> decide

theorem queueKey_inj {p q : Port} {c d : Class} : queueKey p c = queueKey q d ↔ p = q ∧ c = d := by
  revert c d; cases p <;> cases q <;> decide

theorem FrameStore.port_setPort (st : FrameStore) (p q : Port) (v : PortState) :
    (st.setPort p v).port q = if q = p then v else st.port q := by
  simp [FrameStore.port, Table.get_set, portNumber_inj, FrameStore.setPort]

theorem FrameStore.queue_setQueue (st : FrameStore) (p q : Port) (c d : Class) (v : Queue) :
    (st.setQueue p c v).queue q d = if q = p ∧ d = c then v else st.queue q d := by
  simp [FrameStore.queue, Table.get_set, queueKey_inj, FrameStore.setQueue]

@[simp] theorem FrameStore.queue_setPort (st : FrameStore) (p q : Port) (c : Class) (v : PortState) :
    (st.setPort p v).queue q c = st.queue q c := rfl

@[simp] theorem FrameStore.port_setQueue (st : FrameStore) (p q : Port) (c : Class) (v : Queue) :
    (st.setQueue p c v).port q = st.port q := rfl

@[simp] theorem FrameStore.queue_giveBack (st : FrameStore) (n : Nat) (p : Port) (c : Class) :
    (st.giveBack n).queue p c = st.queue p c := rfl

@[simp] theorem FrameStore.port_giveBack (st : FrameStore) (n : Nat) (p : Port) :
    (st.giveBack n).port p = st.port p := rfl

@[simp] theorem FrameStore.queue_take (st : FrameStore) (n : Nat) (p : Port) (c : Class) :
    (st.take n).queue p c = st.queue p c := rfl

@[simp] theorem FrameStore.port_take (st : FrameStore) (n : Nat) (p : Port) : (st.take n).port p = st.port p := rfl

theorem State.link_setLink (s : State) (l m : Link) (v : CraneLink) :
    (s.setLink l v).link m = if m = l then v else s.link m := by
  simp [State.link, Table.get_set, Fin.ext_iff]

theorem State.bearer_setBearer (s : State) (i j : Nat) (d : Descriptor) :
    (s.setBearer i d).bearer j = if j = i then d else s.bearer j := by
  simp [State.bearer, Table.get_set]

theorem State.slot_setRecord (s : State) (i j : Slot) (r : ReeferRecord) :
    (s.setRecord i r).slot j = if j = i then { s.slot i with record := r } else s.slot j := by
  simp [State.slot, Table.get_set, Fin.ext_iff]

/-! ### The scheduler and the offer -/

/-- A selection either leaves the store as it is, or moves the head of one of the port's queues into transmission. -/
theorem FrameStore.select_cases (st : FrameStore) (settings : Table Nat) (p : Port) :
    st.select settings p = st ∨
    ∃ c e rest turn credit, (st.port p).up = true ∧ (st.port p).tx = none ∧ (st.queue p c).entries = e :: rest ∧
      chooseClass (st.port p).turn (st.port p).credit (fun c => !(st.queue p c).entries.isEmpty)
        (fun c => settings.get (weightIndex p c)) = some (c, turn, credit) ∧
      st.select settings p = (st.setQueue p c { st.queue p c with entries := rest }).setPort p
        { st.port p with tx := some { entry := e, cls := c, left := frameSize e.frame + 20 }
                         turn := turn, credit := credit } := by
  unfold FrameStore.select
  simp only
  split
  · rename_i h
    obtain ⟨hu, ht⟩ := by simpa using h
    split
    · exact .inl rfl
    · rename_i c turn credit hc
      split
      · exact .inl rfl
      · rename_i e rest he
        exact .inr ⟨c, e, rest, turn, credit, hu, ht, he, hc, rfl⟩
  · exact .inl rfl

/-- An offer is refused for one cause and counted, or admitted: its blocks are taken, it joins the tail of the queue,
and the scheduler selects. -/
theorem FrameStore.offer_cases (st : FrameStore) (settings : Table Nat) (p : Port) (c : Class) (e : QueueEntry) :
    (∃ cause, st.judge settings p c e.blocks = .refused cause ∧
      st.offer settings p c e = (.refused cause, st.setQueue p c ((st.queue p c).counted (.refused cause)))) ∨
    (st.judge settings p c e.blocks = .admitted ∧
      st.offer settings p c e = (.admitted,
        ((st.take e.blocks).setQueue p c { (st.queue p c).counted .admitted with
          entries := ((st.queue p c).counted .admitted).entries ++ [e] }).select settings p)) := by
  unfold FrameStore.offer
  cases h : st.judge settings p c e.blocks with
  | admitted => exact .inr ⟨rfl, rfl⟩
  | refused cause => exact .inl ⟨cause, rfl, rfl⟩

@[simp] theorem Queue.counted_entries (q : Queue) (a : Admission) : (q.counted a).entries = q.entries := by
  cases a with
  | admitted => rfl
  | refused c => cases c <;> rfl

/-- An admitted offer had link, room and blocks. -/
theorem FrameStore.judge_admitted {st : FrameStore} {settings : Table Nat} {p : Port} {c : Class} {b : Nat}
    (h : st.judge settings p c b = .admitted) :
    (st.port p).up = true ∧ (st.queue p c).entries.length < settings.get (limitIndex p c) ∧
      b + (if c = 0 then 0 else settings.get 1) ≤ st.free := by
  unfold FrameStore.judge at h
  by_cases h1 : (st.port p).up = true
  · by_cases h2 : settings.get (limitIndex p c) ≤ (st.queue p c).entries.length
    · simp [h1, h2] at h
    · by_cases h3 : st.free < b + (if c = 0 then 0 else settings.get 1)
      · simp only [h1, h2, h3] at h; simp at h
      · exact ⟨h1, by omega, by omega⟩
  · simp [h1] at h

/-! ### Entries that leave their queues -/

@[simp] theorem FrameStore.port_dropEntries (st : FrameStore) (p q : Port) (c : Class) (drop : QueueEntry → Bool) :
    (st.dropEntries p c drop).port q = st.port q := by
  simp only [FrameStore.dropEntries, FrameStore.port_giveBack, FrameStore.port_setQueue]

theorem FrameStore.queue_dropEntries (st : FrameStore) (p q : Port) (c d : Class) (drop : QueueEntry → Bool) :
    (st.dropEntries p c drop).queue q d =
      if q = p ∧ d = c then (st.queue p c).without drop else st.queue q d := by
  simp [FrameStore.dropEntries, FrameStore.queue_setQueue]

@[simp] theorem FrameStore.port_dropAt (st : FrameStore) (p q : Port) (drop : QueueEntry → Bool) :
    (st.dropAt p drop).port q = st.port q := by
  simp only [FrameStore.dropAt, allClasses, List.foldl_cons, List.foldl_nil, FrameStore.port_dropEntries]

/-- The queues of the port lose the entries that meet the test, the other queues nothing. -/
theorem FrameStore.queue_dropAt (st : FrameStore) (p q : Port) (c : Class) (drop : QueueEntry → Bool) :
    (st.dropAt p drop).queue q c = if q = p then (st.queue q c).without drop else st.queue q c := by
  have hc : c = 0 ∨ c = 1 ∨ c = 2 ∨ c = 3 := by revert c; decide
  simp only [FrameStore.dropAt, allClasses, List.foldl_cons, List.foldl_nil, FrameStore.queue_dropEntries]
  by_cases h : q = p
  · subst h
    rcases hc with rfl | rfl | rfl | rfl <;> simp
  · simp [h]

@[simp] theorem FrameStore.port_withdraw (st : FrameStore) (b : BitVec 12) (q : Port) :
    (st.withdraw b).port q = st.port q := by
  simp only [FrameStore.withdraw, quayPorts, List.foldl_cons, List.foldl_nil, FrameStore.port_dropAt]

/-- The quay queues lose the frames of the bearer, the yard queues nothing (R59). -/
theorem FrameStore.queue_withdraw (st : FrameStore) (b : BitVec 12) (q : Port) (c : Class) :
    (st.withdraw b).queue q c = if q = .y then st.queue q c else (st.queue q c).without (isFrameOf b) := by
  simp only [FrameStore.withdraw, quayPorts, List.foldl_cons, List.foldl_nil, FrameStore.queue_dropAt]
  cases q <;> simp

/-! ### What the operations leave alone -/

/-- Two states agree but for the Frame Store, the Notice Unit and the Capture Unit. -/
def State.Agrees (s t : State) : Prop := t = { s with store := t.store, notices := t.notices, capture := t.capture }

theorem State.Agrees.rfl' (s : State) : s.Agrees s := rfl

theorem State.Agrees.trans {s t u : State} (h : s.Agrees t) (k : t.Agrees u) : s.Agrees u := by
  unfold State.Agrees at *
  rw [k, h]

theorem State.Agrees.after {s t u : State} (k : t.Agrees u) (h : s.Agrees t) : s.Agrees u := h.trans k

/-- What two states that agree have in common. -/
theorem State.Agrees.fields {s t : State} (h : s.Agrees t) :
    t.quayTime = s.quayTime ∧ t.lineTime = s.lineTime ∧ t.identity = s.identity ∧ t.settings = s.settings ∧
    t.classifier = s.classifier ∧ t.links = s.links ∧ t.paths = s.paths ∧ t.coverage = s.coverage ∧
    t.registry = s.registry ∧ t.summary = s.summary ∧ t.endpoint = s.endpoint ∧ t.pending = s.pending := by
  unfold State.Agrees at h
  rw [h]
  exact ⟨rfl, rfl, rfl, rfl, rfl, rfl, rfl, rfl, rfl, rfl, rfl, rfl⟩

theorem State.agrees_offer (s : State) (p : Port) (c : Class) (k : Option Cell) (o : Origin) (f : Frame) :
    s.Agrees (s.offer p c k o f).2 := rfl

theorem agrees_emit (n : Nat) (s : State) : s.Agrees (emit n s) := by
  induction n generalizing s with
  | zero => exact rfl
  | succ n ih =>
    unfold emit
    split
    · exact rfl
    · simp only
      split
      · exact State.Agrees.after (ih _) rfl
      · exact rfl

theorem State.agrees_emitNotices (s : State) : s.Agrees s.emitNotices := agrees_emit _ s

theorem State.agrees_takeNotice (s : State) (n : Notice) : s.Agrees (s.takeNotice n) := by
  unfold State.takeNotice
  simp only
  split
  · exact rfl
  · split
    · exact State.Agrees.after (State.agrees_emitNotices _) rfl
    · split
      · exact State.Agrees.after (State.agrees_emitNotices _) rfl
      · exact rfl

theorem State.agrees_notify (s : State) (ev : Event) (i level : Nat) (data : Option (BitVec 16)) :
    s.Agrees (s.notify ev i level data) := by
  unfold State.notify
  split
  · exact rfl
  · exact State.agrees_takeNotice s _

theorem agrees_offerOnCells (o : Origin) (f : Frame) (cells : List Cell) (s : State) :
    s.Agrees (offerOnCells o f cells s).2 := by
  induction cells generalizing s with
  | nil => exact rfl
  | cons c rest ih =>
    unfold offerOnCells
    split
    · exact State.Agrees.trans (State.agrees_offer ..) (ih _)
    · exact ih s

theorem agrees_freeze (s : State) : s.Agrees (freeze s) := State.Agrees.after (State.agrees_notify _ _ _ _ _) rfl

theorem agrees_trigger (v : Verdict) (s : State) : s.Agrees (trigger v s) := by
  unfold trigger
  simp only
  refine State.Agrees.trans (t := State.notify { s with capture := { s.capture with
    triggers := bump16 s.capture.triggers } } .triggered 0 (s.setting 53) (Verdict.bearerWord v))
    (State.Agrees.after (State.agrees_notify _ _ _ _ _) rfl) ?_
  split
  · exact rfl
  · split
    · exact State.Agrees.after (agrees_freeze _) rfl
    · exact rfl

theorem agrees_countToTrigger (v : Verdict) (s : State) : s.Agrees (countToTrigger v s) := by
  unfold countToTrigger
  simp only
  split
  · exact State.Agrees.after (agrees_trigger _ _) rfl
  · exact rfl

theorem agrees_actArmed (v : Verdict) (a b : Bool) (s : State) : s.Agrees (actArmed v a b s) := by
  unfold actArmed
  split
  all_goals try split
  all_goals first
    | exact agrees_countToTrigger _ _
    | exact agrees_trigger _ _
    | exact rfl

theorem agrees_actPost (r : Bool) (s : State) : s.Agrees (actPost r s) := by
  unfold actPost
  simp only
  split
  · split
    · exact State.Agrees.after (agrees_freeze _) rfl
    · exact rfl
  · exact rfl

theorem agrees_actTracing (s : State) : s.Agrees (actTracing s) := by
  unfold actTracing
  simp only
  split
  · exact State.Agrees.after (agrees_freeze _) rfl
  · exact rfl

/-- A presentation changes the Frame Store, the Notice Unit and the Capture Unit alone. -/
theorem agrees_present (v : Verdict) (s : State) : s.Agrees (present v s) := by
  unfold present
  simp only
  split
  · exact rfl
  · exact rfl
  · exact State.Agrees.after (agrees_actArmed _ _ _ _) rfl
  · split
    · exact State.Agrees.after (agrees_countToTrigger _ _) rfl
    · exact rfl
  · exact State.Agrees.after (agrees_actPost _ _) rfl
  · exact State.Agrees.after (agrees_actTracing _) rfl

theorem agrees_dispose (r : Passed) (k : Option CraneState) (d : Disposition) (s : State) :
    s.Agrees (dispose r k d s) := agrees_present _ _

theorem agrees_forwardUp (r : Passed) (k : Option CraneState) (s : State) : s.Agrees (forwardUp r k s) :=
  State.Agrees.trans (State.agrees_offer ..) (agrees_dispose ..)

theorem agrees_forwardDown (r : Passed) (k : Option CraneState) (o : Origin) (s : State) :
    s.Agrees (forwardDown r k o s) := by
  unfold forwardDown
  split
  · exact State.Agrees.after (agrees_dispose ..) rfl
  · exact State.Agrees.trans (State.agrees_offer ..) (agrees_dispose ..)

/-- A hold order attempt changes the link and the Frame Store alone. -/
theorem holdAttempt_frame (l : Link) (s : State) : ∃ st k, holdAttempt l s = { s with store := st }.setLink l k := by
  have key : ∀ (o : Origin) (f : Frame) (cells : List Cell) (s : State),
      ∃ st, (offerOnCells o f cells s).2 = { s with store := st } := by
    intro o f cells
    induction cells with
    | nil => exact fun s => ⟨_, rfl⟩
    | cons c rest ih =>
      intro s
      unfold offerOnCells
      split
      · obtain ⟨st, h⟩ := ih (s.offer (quayPort (s.cell c).quayPort) 0 (some c) o f).2
        exact ⟨st, h.trans rfl⟩
      · exact ih s
  unfold holdAttempt
  simp only
  split
  · exact ⟨s.store, _, rfl⟩
  · obtain ⟨st, h⟩ := key .holdOrder
      (holdOrder s.identity s.bearerType s.quayTime (s.link l) (s.link l).holdSequence ((s.link l).holdCounter + 1))
      (s.holdTargets l) s
    rw [h]
    exact ⟨st, _, rfl⟩

/-! ### Notices and the Capture Unit do not touch each other -/

theorem emit_capture (n : Nat) (s : State) (u : CaptureUnit) :
    emit n { s with capture := u } =
      { s with capture := u, notices := (emit n s).notices, store := (emit n s).store } := by
  induction n generalizing s with
  | zero => rfl
  | succ n ih =>
    by_cases h : (s.notices.pacing.isSome || s.notices.queue.isEmpty || decide (s.settings.get 52 = 0)) = true
    · have e1 : emit (n + 1) s = s := by unfold emit; exact if_pos h
      have e2 : emit (n + 1) { s with capture := u } = { s with capture := u } := by unfold emit; exact if_pos h
      rw [e1, e2]
    · unfold emit
      refine (if_neg h).trans ?_
      have e : ∀ x y : State, (if (s.notices.pacing.isSome || s.notices.queue.isEmpty ||
          decide (s.setting 52 = 0)) = true then x else y) = y := fun x y => if_neg h
      rw [e]
      simp only [State.offer, State.setting]
      cases FrameStore.offer _ _ _ _ _ with
      | mk r st => cases r with
        | admitted => exact ih { s with store := st, notices := _ }
        | refused c => rfl

theorem State.emitNotices_capture (s : State) (u : CaptureUnit) :
    ({ s with capture := u } : State).emitNotices =
      { s with capture := u, notices := s.emitNotices.notices, store := s.emitNotices.store } := emit_capture _ s u

theorem State.takeNotice_capture (s : State) (u : CaptureUnit) (n : Notice) :
    ({ s with capture := u } : State).takeNotice n =
      { s with capture := u, notices := (s.takeNotice n).notices, store := (s.takeNotice n).store } := by
  unfold State.takeNotice
  simp only [State.setting]
  split
  · rfl
  · split
    · exact State.emitNotices_capture { s with notices := _ } u
    · split
      · exact State.emitNotices_capture { s with notices := _ } u
      · rfl

/-- An offered notice reads and changes nothing of the Capture Unit. -/
theorem State.notify_capture (s : State) (u : CaptureUnit) (ev : Event) (i level : Nat) (data : Option (BitVec 16)) :
    ({ s with capture := u } : State).notify ev i level data =
      { s with capture := u, notices := (s.notify ev i level data).notices
               store := (s.notify ev i level data).store } := by
  unfold State.notify
  split
  · rfl
  · exact State.takeNotice_capture s u _

/-- What a presentation does to the hit flags, the matches counters and the buffer, in one form. -/
theorem CaptureUnit.see_eq (u : CaptureUnit) (now : QuayTime) (v : Verdict) (a b : Bool) :
    u.see now v a b = { u with
      hitA := u.hitA || a, hitB := u.hitB || b
      matchesA := if a then u.matchesA + 1 else u.matchesA
      matchesB := if b then u.matchesB + 1 else u.matchesB
      buffer := if u.records a b then u.buffer.drop (u.buffer.length - 255) ++ [captureEntry now v a b] else u.buffer
      recorded := if u.records a b then u.recorded + 1 else u.recorded } := by
  have drop : ∀ (l : List CaptureEntry) (e : CaptureEntry),
      (if l.length < 256 then l ++ [e] else l.drop (l.length - 255) ++ [e]) = l.drop (l.length - 255) ++ [e] := by
    intro l e
    split
    · rw [show l.length - 255 = 0 by omega]; rfl
    · rfl
  unfold CaptureUnit.see CaptureUnit.record
  simp only [drop]
  split <;> rfl

/-! ### Commands and tables -/

/-- A management command by itself shows what its owner answers. -/
theorem runCommand_alone {s : State} (h : s.endpoint.executing = none) (code : Byte) (size : Nat)
    (owner : State → Ruling × State) :
    runCommand code size owner s = showAnswer ((owner s).1.answer code) (owner s).2 := by
  unfold runCommand
  rw [h]

/-- A range copied from one path table to another. -/
theorem get_copyRange (source target : Table PathEntry) (first n k : Nat) :
    (copyRange source target first n).get k =
      if first ≤ k ∧ k < first + n then source.get k else target.get k := by
  induction n generalizing target first with
  | zero => simp [copyRange]
  | succ n ih =>
    rw [copyRange, ih, Table.get_set]
    by_cases h : first = k
    · subst h; simp
    · have h' : k ≠ first := fun e => h e.symm
      by_cases h2 : first + 1 ≤ k ∧ k < first + 1 + n
      · rw [if_pos h2, if_pos (by omega)]
      · rw [if_neg h2, if_neg (by omega), if_neg (by omega)]

theorem pathIndex_inRange {j l : Link} {g : Segment} :
    (l.val * 64 ≤ pathIndex j g ∧ pathIndex j g < l.val * 64 + 64) ↔ j = l := by
  unfold pathIndex
  have := g.isLt
  constructor
  · intro ⟨h1, h2⟩; apply Fin.ext; omega
  · rintro rfl; omega

/-- A setting of the cold table has the cold value of its index (R187). -/
theorem Settings.get_cold (id : Identity) {i : Nat} (h : i < 54) :
    (Settings.cold id).get i = Settings.coldValue id i := by
  have key : ∀ (n : Nat) (t : Table Nat),
      ((List.range n).foldl (fun t i => t.set i (Settings.coldValue id i)) t).get i =
        if i < n then Settings.coldValue id i else t.get i := by
    intro n
    induction n with
    | zero => intro t; simp
    | succ n ih =>
      intro t
      rw [List.range_succ, List.foldl_append]
      simp only [List.foldl_cons, List.foldl_nil, Table.get_set, ih]
      split_ifs <;> first | rfl | (subst_vars; rfl) | omega
  rw [Settings.cold, key, if_pos h]

end Sys2Proof.Machine
end

