-- ==== Sys2Proof/Laws/PerInstr.lean ====
section
/-! SUPPORT. Laws stated per command. `Operands`: whatever a request frame carries, the command read from it is
well-formed, that is, every operand fits its place in the frame (R196, R198). -/

namespace Sys2Proof.Laws

/-- Two carried bytes fit a 2-byte field. -/
theorem fits16_word (w : BitVec 16) : fits16 w.toNat = true := by simpa [fits16] using w.isLt

/-- The bytes read from an offset are as many as asked for, where the data has them. -/
theorem bytesAt_length (b : List Byte) (i n : Nat) (h : i + n ≤ b.length) : (Machine.bytesAt b i n).length = n := by
  simp only [Machine.bytesAt, List.length_take, List.length_drop]; omega

/-- The write of a setting is well-formed. -/
theorem decodeSettingWrite_wellFormed (index : Nat) (v : BitVec 48) (h : fits16 index = true) :
    (decodeSettingWrite index v).wellFormed = true := by
  unfold decodeSettingWrite
  repeat' split
  all_goals first | rfl | exact h

/-- A Write Entry as read is well-formed. -/
theorem decodeWrite_wellFormed (c : WireCommand) (h : c.wellFormed = true) : (decodeWrite c).wellFormed = true := by
  unfold decodeWrite
  simp only []
  split
  all_goals try exact h
  all_goals first
    | (simp [Instr.wellFormed, fits16_word]; done)
    | (split
       · exact h
       · first
         | exact decodeSettingWrite_wellFormed _ _ (fits16_word _)
         | (simp only [Instr.wellFormed, fits16_word]; done)
         | (simp only [Instr.wellFormed, fits16_word, CraneFields.wellFormed, ReeferFields.wellFormed, decodeCrane,
              decodeReefer, Bool.true_and, beq_iff_eq]
            exact bytesAt_length _ _ _ (by omega)))

/-- A Clear Entries as read is well-formed. -/
theorem decodeClear_wellFormed (c : WireCommand) (h : c.wellFormed = true) : (decodeClear c).wellFormed = true := by
  unfold decodeClear
  split
  all_goals first | exact h | simp [Instr.wellFormed, fits16_word]

/-- Every command read from a request is well-formed. -/
theorem decodeCommand_wellFormed (c : WireCommand) (h : c.wellFormed = true) :
    (decodeCommand c).wellFormed = true := by
  unfold decodeCommand
  split
  · exact h
  · split
    · exact h
    · split
      all_goals first
        | exact h
        | exact decodeWrite_wellFormed c h
        | exact decodeClear_wellFormed c h
        | rfl
        | (simp [Instr.wellFormed, fits16_word]; done)
        | (simp only [Instr.wellFormed, fits16_word, Bool.true_and, decide_eq_true_eq]
           exact (Machine.byteAt c.args 2).isLt)

/-- What is carried as this command makes it well-formed. -/
def Operands.Statement (i : Instr) : Prop :=
  ∀ c : WireCommand, c.wellFormed = true → decodeCommand c = i → i.wellFormed = true

/-- The one proof of the family. -/
theorem operands_of_any (i : Instr) : Operands.Statement i := fun c h e => e ▸ decodeCommand_wellFormed c h

theorem Operands.coldReset : Operands.Statement (.coldReset) :=
  operands_of_any _
theorem Operands.frameArrival (port : Port) (frame : Frame) (checkRight : Bool) :
    Operands.Statement (.frameArrival port frame checkRight) :=
  operands_of_any _
theorem Operands.transmissionCompletion (port : Port) : Operands.Statement (.transmissionCompletion port) :=
  operands_of_any _
theorem Operands.linkLoss (port : Port) (receiving : Bool) : Operands.Statement (.linkLoss port receiving) :=
  operands_of_any _
theorem Operands.linkGain (port : Port) : Operands.Statement (.linkGain port) :=
  operands_of_any _
theorem Operands.deadlineExpiry (link : Link) (direction : Direction) :
    Operands.Statement (.deadlineExpiry link direction) :=
  operands_of_any _
theorem Operands.releaseExpiry (link : Link) : Operands.Statement (.releaseExpiry link) :=
  operands_of_any _
theorem Operands.holdOrderTimeExpiry (link : Link) : Operands.Statement (.holdOrderTimeExpiry link) :=
  operands_of_any _
theorem Operands.overlapExpiry (link : Link) : Operands.Statement (.overlapExpiry link) :=
  operands_of_any _
theorem Operands.ageDeadlineExpiry (entry : Fin 2048) : Operands.Statement (.ageDeadlineExpiry entry) :=
  operands_of_any _
theorem Operands.staleDeadlineExpiry (slot : Slot) : Operands.Statement (.staleDeadlineExpiry slot) :=
  operands_of_any _
theorem Operands.lostDeadlineExpiry (slot : Slot) : Operands.Statement (.lostDeadlineExpiry slot) :=
  operands_of_any _
theorem Operands.summaryTimerExpiry : Operands.Statement (.summaryTimerExpiry) :=
  operands_of_any _
theorem Operands.frameStep : Operands.Statement (.frameStep) :=
  operands_of_any _
theorem Operands.pacingDeadlineExpiry : Operands.Statement (.pacingDeadlineExpiry) :=
  operands_of_any _
theorem Operands.identify : Operands.Statement (.identify) :=
  operands_of_any _
theorem Operands.readEntries (table : Byte) (first count : Nat) : Operands.Statement (.readEntries table first count) :=
  operands_of_any _
theorem Operands.writeSettings (index : Nat) (value : BitVec 48) : Operands.Statement (.writeSettings index value) :=
  operands_of_any _
theorem Operands.bearerTypeWrite (value : BitVec 48) : Operands.Statement (.bearerTypeWrite value) :=
  operands_of_any _
theorem Operands.queueLimitWrite (port : Port) (cls : Class) (value : BitVec 48) :
    Operands.Statement (.queueLimitWrite port cls value) :=
  operands_of_any _
theorem Operands.noticeFloorWrite (value : BitVec 48) : Operands.Statement (.noticeFloorWrite value) :=
  operands_of_any _
theorem Operands.summaryIntervalWrite (value : BitVec 48) : Operands.Statement (.summaryIntervalWrite value) :=
  operands_of_any _
theorem Operands.noticeDestinationWrite (value : BitVec 48) : Operands.Statement (.noticeDestinationWrite value) :=
  operands_of_any _
theorem Operands.writeManagers (index : Nat) (address : Address) : Operands.Statement (.writeManagers index address) :=
  operands_of_any _
theorem Operands.writeCells (index : Nat) (fields : CellFields) : Operands.Statement (.writeCells index fields) :=
  operands_of_any _
theorem Operands.writeGeometry (bay : Nat) (segment : Byte) : Operands.Statement (.writeGeometry bay segment) :=
  operands_of_any _
theorem Operands.writeBearers (index : Nat) (fields : BearerFields) : Operands.Statement (.writeBearers index fields) :=
  operands_of_any _
theorem Operands.writeCranes (index : Nat) (fields : CraneFields) : Operands.Statement (.writeCranes index fields) :=
  operands_of_any _
theorem Operands.writePaths (index : Nat) (primary alternate : Byte) :
    Operands.Statement (.writePaths index primary alternate) :=
  operands_of_any _
theorem Operands.writeProfiles (index : Nat) (fields : ProfileFields) :
    Operands.Statement (.writeProfiles index fields) :=
  operands_of_any _
theorem Operands.writeReefers (index : Nat) (fields : ReeferFields) : Operands.Statement (.writeReefers index fields) :=
  operands_of_any _
theorem Operands.writeCoverage (index : Nat) : Operands.Statement (.writeCoverage index) :=
  operands_of_any _
theorem Operands.clearSettings (first count : Nat) : Operands.Statement (.clearSettings first count) :=
  operands_of_any _
theorem Operands.clearManagers (first count : Nat) : Operands.Statement (.clearManagers first count) :=
  operands_of_any _
theorem Operands.clearCells (first count : Nat) : Operands.Statement (.clearCells first count) :=
  operands_of_any _
theorem Operands.clearGeometry (first count : Nat) : Operands.Statement (.clearGeometry first count) :=
  operands_of_any _
theorem Operands.clearBearers (first count : Nat) : Operands.Statement (.clearBearers first count) :=
  operands_of_any _
theorem Operands.clearCranes (first count : Nat) : Operands.Statement (.clearCranes first count) :=
  operands_of_any _
theorem Operands.clearPaths (first count : Nat) : Operands.Statement (.clearPaths first count) :=
  operands_of_any _
theorem Operands.clearProfiles (first count : Nat) : Operands.Statement (.clearProfiles first count) :=
  operands_of_any _
theorem Operands.clearReefers (first count : Nat) : Operands.Statement (.clearReefers first count) :=
  operands_of_any _
theorem Operands.clearCoverage (first count : Nat) : Operands.Statement (.clearCoverage first count) :=
  operands_of_any _
theorem Operands.commitPaths (mask : BitVec 16) (applyNow : Bool) : Operands.Statement (.commitPaths mask applyNow) :=
  operands_of_any _
theorem Operands.craneHold (mask : BitVec 16) : Operands.Statement (.craneHold mask) :=
  operands_of_any _
theorem Operands.statisticsRead (group : Byte) (first count : Nat) :
    Operands.Statement (.statisticsRead group first count) :=
  operands_of_any _
theorem Operands.statisticsClear : Operands.Statement (.statisticsClear) :=
  operands_of_any _
theorem Operands.captureArm (fields : CaptureFields) : Operands.Statement (.captureArm fields) :=
  operands_of_any _
theorem Operands.captureStop : Operands.Statement (.captureStop) :=
  operands_of_any _
theorem Operands.captureRead (offset count : Nat) : Operands.Statement (.captureRead offset count) :=
  operands_of_any _
theorem Operands.captureClearHits : Operands.Statement (.captureClearHits) :=
  operands_of_any _
theorem Operands.restart : Operands.Statement (.restart) :=
  operands_of_any _
theorem Operands.badCommand (command : WireCommand) : Operands.Statement (.badCommand command) :=
  operands_of_any _

end Sys2Proof.Laws
end

