-- ==== Sys2Proof/Tests/Slice0.lean ====
section
/-! SUPPORT. Small tests of single steps, with values from the manual's rules and worked examples, and for every
statement with hypotheses a theorem that meets them (`test_O<n>_…` belongs to statement O<n>). -/

namespace Sys2Proof.Tests

open Sys2Proof Sys2Proof.Machine

-- One theorem at a time: the kernel evaluates each of them, and many at once would want many stacks.
set_option Elab.async false

/-! ### Helpers -/

/-- The state a command answers; the same state where it answers none. -/
def ran (c : Instr) (s : State) : State :=
  match exec c s with
  | .next t => t
  | .fault _ => s
  | .refused _ => s

/-- The state a step answers. -/
def stepped (s : State) : State :=
  match step s with
  | .next t => t
  | .fault _ => s
  | .refused _ => s

/-- The result shown after a management command by itself. -/
def result (c : Instr) (s : State) : Option ResultCode := (ran c s).endpoint.answer.map Answer.result

/-- The disposition of the frame an open trace recorded last. -/
def lastDisposition (s : State) : Option Disposition := s.capture.buffer.getLast?.map CaptureEntry.disposition

/-- Bytes from numbers. -/
def bytes (l : List Nat) : List Byte := l.map (BitVec.ofNat 8)

/-- A present cell on a quay port with link. -/
def cellOn (q : Fin 4) : CellEntry := { present := true, quayPort := q, label := 0, portUp := true }

/-- All ports with link, cells 3 and 6 on Q0 and Q1, and an open trace running. -/
def base : State :=
  { State.reset with
    store := { FrameStore.cold with ports := .all { PortState.cold with up := true } }
    classifier := { State.reset.classifier with
      cells := { blank := .cold, listed := [(3, cellOn 0), (6, cellOn 1)] } }
    capture := { CaptureUnit.cold with
      state := .tracing, config := { CaptureConfig.cold with mode := .trace, n := 100 } } }

/-- A state with a setting changed. -/
def setTo (i v : Nat) (s : State) : State := { s with settings := s.settings.set i v }

/-- A data field of 50 bytes: 68 bytes on the line, one block. -/
def plain : Frame := { dst := 1, src := 2, etherType := 0x1234, data := List.replicate 50 0 }

/-- The classification result of a downlink frame of a bearer (R13). -/
def cargo (bearer : BitVec 12) : Classification :=
  { port := .y, direction := .down, bearer := bearer, sequence := 1, requested := 0, cell := 3
    governing := bearer.toNat, treatment := .general none, cls := 0, length := 10, home := none, trailer := none
    record := none, crane := none }

/-- A queue entry of one block. -/
def entry (n : Byte) : QueueEntry :=
  { frame := { plain with src := n.setWidth 48 }, blocks := 1, origin := .forwarded (cargo 9) }

/-- A command whose carried length is that of its bytes (R196). -/
def wire (code : Byte) (args : List Byte) : WireCommand :=
  { code := code, carried := BitVec.ofNat 16 (args.length + 4), args := args }

/-- A queue holding entries. -/
def holding (entries : List QueueEntry) : Queue := { Queue.cold with entries := entries }

/-- A bearer frame: the direction and class byte, the cell, the bearer number, the sequence and the payload (R193),
padded to 46 bytes. -/
def bearerFrame (bits cell bearer sequence : Nat) (payload : List Byte) : Frame :=
  { dst := 1, src := 2, etherType := 0x88B6
    data := padTo 46 (put8 1 ++ put8 bits ++ put8 cell ++ put16 bearer ++ put16 sequence ++ put16 payload.length ++
      put8 0 ++ payload) }

/-- A crane control record without a token, and one with a token (R193). -/
def control (bay boom : Nat) : List Byte := bytes [bay, boom, 0, 0]
def controlToken (token : Nat) : List Byte := bytes [0, 0, 1, 0] ++ put16 token

/-- A descriptor of a treatment, full, without policing. -/
def descriptor (t : Treatment) : Descriptor := { Descriptor.cold with treatment := t, level := 1024 }

/-- A state with a descriptor. -/
def withBearer (i : Nat) (t : Treatment) (s : State) : State := s.setBearer i (descriptor t)

/-- The crane link configuration of the worked example of chapter 3, on bearer 1204. -/
def craneConfig : CraneConfig :=
  { CraneConfig.cold with
    enable := true, bearer := 1204, period := 50, jitter := 10, recovery := 3, window := 2000, tokenA := 0xA0
    tokenB := 0xB0 }

/-- Crane link 4 of that example, LIVE at segment 17 at quay time 1100. -/
def crane : CraneLink :=
  { CraneLink.cold with
    config := craneConfig, state := .live, upDeadline := some 1115, downDeadline := some 1122, upAlive := true
    upSeq := some 11, downSeq := some 201, lastSent := some 201, segment := some 17, boom := .up, resolved := [3] }

/-- The same link in HOLD since its third miss at 1222. -/
def heldCrane : CraneLink :=
  { crane with
    state := .hold, reason := .deadline, missed := 3, upDeadline := some 1315, downDeadline := none
    nextHold := some 1272, holdCounter := 1, lastSent := some 202 }

/-- A state with crane link 4, its bearer, bay 77 at segment 17, and its path entry 3 and 6. -/
def withCrane (k : CraneLink) (now : QuayTime) : State :=
  { withBearer 1204 (.crane 4) base with
    quayTime := now
    links := { blank := .cold, listed := [(4, k)] }
    paths := {
      geometry := { blank := none, listed := [(77, some 17)] }
      staged := .all ⟨none, none⟩
      active := { blank := ⟨none, none⟩, listed := [(273, ⟨some 3, some 6⟩)] } } }

/-- The report of the worked example of chapter 6: mark ABCU3074815, counter, supply, return −170, setpoint −180. -/
def mark : List Byte := bytes [65, 66, 67, 85, 51, 48, 55, 52, 56, 49, 53]
def report (counter : Nat) (supply : Int) (power : Byte) : Report :=
  { mark := mark, counter := BitVec.ofNat 8 counter, supply := some supply, returnTemp := some (-170)
    setpoint := some (-180), powerCode := power, alarmCount := 0, alarms := [] }

/-- Slot 311 with a record, registered. -/
def slotHolding (r : ReeferRecord) : ReeferSlot :=
  { config := { registered := true, mark := mark, profile := 0, segment := none }, record := r }
def withSlot (r : ReeferRecord) (now : QuayTime) : State :=
  { base with
    quayTime := now
    registry := { Registry.cold with
      slots := { blank := .cold, listed := [(311, slotHolding r)] }
      changeList := if r.changed then [311] else [] } }

/-- The record of that example after the report at 1,900,000. -/
def record : ReeferRecord :=
  { ReeferRecord.never with
    freshness := .fresh, confirmed := some (-145), candidate := some (-150), returnTemp := some (-170)
    setpoint := some (-180), power := some .on, high := true, lastTime := 1900000, lastCounter := some 13
    stale := some 2800000, lost := some 5500000, summarised := some (-182), changed := true }

/-- A notice of a level. -/
def notice (level : Nat) : Notice := { event := .holeSet, index := 5, level := level, time := 7, data := none }

/-- A state with queued notices, pacing and destination. -/
def withNotices (queue : List Notice) (pacing : Option QuayTime) (dst : Nat) : State :=
  setTo 52 dst { base with notices := { NoticeUnit.cold with queue := queue, pacing := pacing } }

/-! ### Well-formed commands: an ill-formed term for each check (R196, R198) -/

theorem test_wf_frame_too_long :
    (Instr.frameArrival .y { plain with data := List.replicate 65518 0 } true).wellFormed = false := by
  simp [Instr.wellFormed, Frame.wellFormed, fits16, -List.reduceReplicate]
theorem test_wf_frame_longest :
    (Instr.frameArrival .y { plain with data := List.replicate 65517 0 } true).wellFormed = true := by
  simp [Instr.wellFormed, Frame.wellFormed, fits16, -List.reduceReplicate]
theorem test_wf_index_too_wide :
    ([.writeSettings 65536 0, .writeManagers 65536 0, .writeCells 65536 ⟨0, 0, 0⟩, .writeGeometry 65536 0,
      .writePaths 65536 0 0, .writeCoverage 65536,
      .writeBearers 65536 (decodeBearer []), .writeProfiles 65536 (decodeProfile [])] : List Instr).all
        (fun c => !c.wellFormed) = true := by decide +kernel
theorem test_wf_range_too_wide :
    ([.readEntries 1 65536 0, .readEntries 1 0 65536, .clearSettings 65536 0, .clearManagers 0 65536,
      .clearCells 65536 0, .clearGeometry 0 65536, .clearBearers 65536 0, .clearCranes 0 65536, .clearPaths 65536 0,
      .clearProfiles 0 65536, .clearReefers 65536 0, .clearCoverage 0 65536, .statisticsRead 1 65536 0,
      .statisticsRead 1 0 65536, .captureRead 65536 0] : List Instr).all (fun c => !c.wellFormed) = true := by
  decide +kernel
theorem test_wf_capture_count : (Instr.captureRead 0 256).wellFormed = false := by decide
theorem test_wf_template :
    (Instr.writeCranes 0 { decodeCrane [] with template := List.replicate 63 0 }).wellFormed = false := by decide +kernel
theorem test_wf_crane_index :
    (Instr.writeCranes 65536 { decodeCrane [] with template := List.replicate 64 0 }).wellFormed = false := by
  decide +kernel
theorem test_wf_mark :
    (Instr.writeReefers 0 { registered := 0, mark := List.replicate 10 0, profile := 0, segment := 0 }).wellFormed =
      false := by decide +kernel
theorem test_wf_command_too_long :
    (Instr.badCommand { code := 99, carried := 0xFFFF, args := List.replicate 65532 0 }).wellFormed = false := by
  simp [Instr.wellFormed, WireCommand.wellFormed, -List.reduceReplicate]
theorem test_wf_command_length :
    (Instr.badCommand { code := 99, carried := 5, args := [] }).wellFormed = false ∧
    (Instr.badCommand { code := 99, carried := 3, args := [0] }).wellFormed = false ∧
    (Instr.badCommand { code := 99, carried := 3, args := [] }).wellFormed = true := by decide

/-! ### Commands of a request, written out byte by byte from R196 -/

theorem test_decode_commit : decodeCommand (wire 5 (bytes [0, 128, 0])) = .commitPaths 0x80 false := by decide
theorem test_decode_hold : decodeCommand (wire 6 (bytes [0xFF, 0xFF])) = .craneHold 0xFFFF := by decide
theorem test_decode_read : decodeCommand (wire 2 (bytes [5, 0, 0, 1, 0, 200])) = .readEntries 5 1 200 := by decide
theorem test_decode_path : decodeCommand (wire 3 (bytes [7, 0, 1, 213, 6, 11])) = .writePaths 469 6 11 := by decide
theorem test_decode_limit :
    decodeCommand (wire 3 (bytes [1, 0, 0, 21, 0, 0, 0, 0, 1, 0])) = .queueLimitWrite .y 3 256 := by decide
theorem test_decode_floor :
    decodeCommand (wire 3 (bytes [1, 0, 0, 50, 0, 0, 0, 0, 0, 3])) = .noticeFloorWrite 3 := by decide
theorem test_decode_clear : decodeCommand (wire 4 (bytes [10, 0, 2, 0, 0, 32])) = .clearCoverage 512 32 := by decide
theorem test_decode_short : decodeCommand (wire 6 (bytes [1])) = .badCommand (wire 6 (bytes [1])) := by decide
/-- A carried length of 3 is stepped over as 4 and is too short for Identify (R183 test 3, R197). -/
theorem test_decode_length_three :
    readCommands (bytes [1, 0, 0, 3, 8, 0, 0, 4]) 2 = some [⟨1, 3, []⟩, wire 8 []] ∧
    decodeCommand ⟨1, 3, []⟩ = .badCommand ⟨1, 3, []⟩ ∧ badCommandResult ⟨1, 3, []⟩ = .badValue := by decide
theorem test_decode_unknown : decodeCommand (wire 14 []) = .badCommand (wire 14 []) := by decide
theorem test_table_word : decodeTableWord 16 5 = none := by decide

/-! ### The queue of commands and the clock -/

theorem test_O3_idle_clock :
    State.reset.pending = [] ∧ State.reset.summary.passing = false ∧ State.reset.endpoint.executing = none ∧
    State.reset.endpoint.requests = [] ∧ State.reset.dueExpiry = none ∧
    State.reset.lineTime < Config.byteTimesPerMs ∧ (stepped .reset).quayTime = 1 := by decide +kernel
theorem test_O3_idle_transmission :
    let busy := { base.store.port .q1 with tx := some { entry := entry 1, cls := 0, left := 88 } }
    let s := { base with store := base.store.setPort .q1 busy }
    s.dueExpiry = none ∧ (stepped s).lineTime = 88 ∧ (stepped s).quayTime = 0 ∧
    (stepped s).pending = [.transmissionCompletion .q1] := by decide +kernel
theorem test_O3_idle_pass :
    (stepped { base with summary := { base.summary with passing := true } }).pending = [.frameStep] := by
  decide +kernel
theorem test_O3_idle_due :
    ({ base with quayTime := 60000 } : State).dueExpiry = some .summaryTimerExpiry ∧
    (stepped { base with quayTime := 60000 }).pending = [.summaryTimerExpiry] := by decide +kernel
theorem test_O3_deadline_reached :
    let s := withCrane crane 1115
    s.canonical ∧ s.dueExpiry = some (.deadlineExpiry 4 .up) ∧ s.deadlineOf (.deadlineExpiry 4 .up) = some 1115 ∧
    (withCrane crane 1114).dueExpiry = none := by unfold State.canonical; decide +kernel
theorem test_O3_idle_requests :
    let q : Request := { tag := 1, source := 2, commands := [wire 13 []] }
    let e := (stepped { base with endpoint := { base.endpoint with requests := [q] } }).endpoint
    e.executing = some { request := q, results := [], stopped := false } ∧ e.requests = [] ∧
    (stepped { base with endpoint := { base.endpoint with executing := e.executing } }).pending = [.restart] := by
  decide +kernel
theorem test_cold_reset_settings :
    [37, 42, 44, 53].map (ran .coldReset (setTo 37 1 base)).setting = [5, 64, 600, 4] := by decide +kernel

/-! ### Offers, the scheduler, completions and links -/

/-- One frame of one block offered to the yard port in class 1, with a limit and a free count. -/
def offered (limit free : Nat) (c : Sys2Proof.Class) : Admission :=
  let s := setTo 18 limit (setTo 19 limit base)
  let st := (s.store.setQueue .y 1 (holding [entry 1])).setQueue .y 0 (holding [entry 1])
  (({ s with store := { st with free := free } } : State).offer .y c none (.forwarded (cargo 9)) plain).1

theorem test_O6_link_down :
    (State.reset.store.port .y).up = false ∧
    (State.reset.offer .y 1 none (.forwarded (cargo 9)) plain).1 = .refused .linkDown := by
  decide +kernel
theorem test_O6_queue_full : offered 1 600 1 = .refused .queueFull := by decide +kernel
theorem test_O6_pool : offered 2 512 1 = .refused .pool ∧ offered 2 0 0 = .refused .pool := by decide +kernel
theorem test_O6_admitted : offered 2 513 1 = .admitted ∧ offered 2 1 0 = .admitted := by decide +kernel
/-- The admitted frame is sent at once on a ready port, with the sending cell in its cell field (R35, R40). -/
theorem test_admitted_cell :
    let s := (base.offer .q0 0 (some 3) (.forwarded (cargo 9)) (bearerFrame 0x80 255 9 1 [])).2
    ((s.store.port .q0).tx.map fun t => byteAt t.entry.frame.data 2) = some 3 ∧ s.store.free = 16383 ∧
    s.store.least = 16383 ∧ (s.store.queue .q0 0).admitted = 1 := by decide +kernel

/-- Port Q0 of the worked example of 2.6, weights 3, 2 and 1, with queue lengths, turn and credit. -/
def turns (z a b c : Nat) (turn : Sys2Proof.Class) (credit : Nat) : Option (Sys2Proof.Class × Nat × Nat) :=
  let st := { base.store with queues := { blank := .cold, listed := [
    (0, holding (List.replicate z (entry 0))), (1, holding (List.replicate a (entry 1))),
    (2, holding (List.replicate b (entry 2))), (3, holding (List.replicate c (entry 3)))] } }
  let st := st.setPort .q0 { st.port .q0 with turn := turn, credit := credit }
  let p := (st.select (setTo 22 3 (setTo 23 2 (setTo 24 1 base))).settings .q0).port .q0
  p.tx.map fun t => (t.cls, p.turn.val, p.credit)

theorem test_O7_first_search : turns 0 1 0 0 3 0 = some (1, 1, 2) := by decide +kernel
theorem test_O7_credit : turns 0 4 3 2 1 2 = some (1, 1, 1) := by decide +kernel
theorem test_O7_next_class : turns 0 2 3 2 1 0 = some (2, 2, 1) := by decide +kernel
theorem test_O7_strict : turns 1 2 2 2 2 1 = some (0, 2, 1) := by decide +kernel
theorem test_O7_class_empty : turns 0 0 1 1 1 1 = some (2, 2, 1) := by decide +kernel
theorem test_O7_own_turn_last : turns 0 0 0 1 3 0 = some (3, 3, 0) := by decide +kernel
theorem test_O7_nothing : turns 0 0 0 0 2 1 = none ∧ (base.store.port .q0).up = true ∧
    (base.store.port .q0).tx = none ∧ (base.store.port .q0).turn ≠ 0 ∧ (State.reset.store.port .q0).up = false := by
  decide +kernel

/-- Q0 with a transmission of one block in progress and one frame of class 3 waiting. -/
def sending : State :=
  let busy := { base.store.port .q0 with tx := some { entry := entry 1, cls := 2, left := 10 } }
  let st := (base.store.setPort .q0 busy).setQueue .q0 3 (holding [entry 2])
  { base with store := { st with free := 16382 } }

theorem test_O8_completion :
    ((ran (.transmissionCompletion .q0) sending).store.port .q0).bytesSent = 68 ∧
    (ran (.transmissionCompletion .q0) sending).store.free = 16383 ∧
    ((ran (.transmissionCompletion .q0) sending).store.port .q0).tx.map Transmission.cls = some 3 ∧
    (base.store.port .q1).tx = none := by decide +kernel
theorem test_O9_loss :
    (sending.store.port .q0).up = true ∧ (ran (.linkLoss .q0 true) sending).store.free = 16384 ∧
    ((ran (.linkLoss .q0 true) sending).store.port .q0).receiveErrors = 1 ∧
    ((ran (.linkLoss .q0 true) sending).store.queue .q0 2).flushed = 1 ∧
    ((ran (.linkLoss .q0 true) sending).cell 3).portUp = false ∧
    ((ran (.linkLoss .q0 true) sending).notices.queue.map Notice.data) = [some 2] := by decide +kernel
theorem test_O9_gain :
    (State.reset.store.port .q2).up = false ∧ ((ran (.linkGain .q2) .reset).store.port .q2).up = true ∧
    ((ran (.linkGain .q2) .reset).notices.queue.map Notice.event) = [.linkUp] := by decide +kernel

/-! ### States that meet the invariants -/

theorem test_O10_hypothesis : sending.poolWhole := by unfold State.poolWhole; decide +kernel
theorem test_O11_hypothesis : sending.limitsKept ∧ sending.flagsTrue := by
  refine ⟨⟨by decide +kernel, fun p => ?_⟩, by unfold State.flagsTrue; decide +kernel⟩
  cases p <;> decide +kernel
theorem test_O12_hypothesis : sending.canonical ∧ (withCrane heldCrane 1300).canonical := by
  unfold State.canonical; decide +kernel
/-- The value at an index of a table with one index listed. -/
theorem get_one {α : Type} (a v : α) (k i : Nat) : ({ blank := a, listed := [(k, v)] } : Table α).get i =
    if k = i then v else a := by
  simp only [Table.get, Table.lookup]; split <;> rfl
theorem test_O22_hypothesis :
    (withBearer 1204 (.crane 4) base).bearersLegal ∧
    ({ base with coverage := { base.coverage with entries := { blank := .cold, listed := [(643, {
      state := .hole, estimate := 1271, count := 12, lastTime := 0, age := some 600000 })] } } } : State).coverLegal := by
  refine ⟨⟨fun i => ?_, by decide +kernel⟩, fun i => ?_⟩
  · show Descriptor.level (Table.get { blank := .cold, listed := [(1204, descriptor (.crane 4))] } i) ≤
      Descriptor.burstBytes (Table.get { blank := .cold, listed := [(1204, descriptor (.crane 4))] } i)
    rw [get_one]; split <;> decide
  · show CoverEntry.legal (Table.get { blank := .cold, listed := [(643, _)] } i)
    rw [get_one]; split <;> (unfold CoverEntry.legal; decide)
theorem test_O24_hypothesis : (withCrane heldCrane 1300).linksLegal := by
  intro l
  show CraneLink.legal (Table.get { blank := .cold, listed := [(4, heldCrane)] } l.val)
  rw [get_one]
  split <;> (unfold CraneLink.legal CraneLink.isHeld CraneLink.isWorking; decide)
theorem test_O25_hypothesis : ((withCrane heldCrane 1300).link 4).state = .hold := by decide +kernel
/-- Link 4 in HOLD, with a hold order and a copy of another bearer's control frame waiting. -/
def quietQueue : Queue :=
  holding [{ entry 1 with origin := .holdOrder }, { entry 2 with origin := .control (cargo 77) }]
def quiet : State :=
  { withCrane heldCrane 1300 with store := { (withCrane heldCrane 1300).store with
    queues := { blank := .cold, listed := [(4, quietQueue)] } } }
theorem quiet_link (l : Link) : quiet.link l = if 4 = l.val then heldCrane else .cold := get_one _ _ _ _
theorem quiet_entries (p : Port) (c : Sys2Proof.Class) (e : QueueEntry) (h : e ∈ (quiet.store.queue p c).entries) :
    p = .q1 ∧ c = 0 ∧ e ∈ quietQueue.entries := by
  have hq : quiet.store.queue p c = if 4 = queueKey p c then quietQueue else .cold := get_one _ _ _ _
  rw [hq] at h
  split at h
  · next hk =>
    have hp : p = .q1 ∧ c = 0 := by revert c; cases p <;> decide
    exact ⟨hp.1, hp.2, h⟩
  · exact absurd h (by simp [Queue.cold])
theorem test_O26_hypothesis : quiet.heldQuiet := by
  refine ⟨fun l h => ?_, fun p c e he b _ => ?_, fun l h p c _ e he => ?_⟩
  · rw [quiet_link] at h ⊢
    split at h
    · next hl =>
      have : l = 4 := Fin.ext hl.symm
      subst this
      exact ⟨by decide, by decide +kernel⟩
    · exact absurd rfl h
  · obtain ⟨rfl, rfl, -⟩ := quiet_entries p c e he
    exact ⟨by decide, rfl⟩
  · obtain ⟨rfl, rfl, hm⟩ := quiet_entries p c e he
    rw [quiet_link] at h ⊢
    split at h
    · next hl =>
      rw [if_pos hl]
      have h2 : e = { entry 1 with origin := .holdOrder } ∨ e = { entry 2 with origin := .control (cargo 77) } := by
        simpa [quietQueue, holding] using hm
      rcases h2 with rfl | rfl
      · rintro r (hr | hr) <;> cases hr
      · rintro r (hr | hr) <;> cases hr
        decide
    · rcases h with h | h <;> exact absurd h (by decide)
theorem test_O41_hypothesis : (withSlot record 2000000).listExact := by
  refine ⟨by decide +kernel, fun i => ?_, fun i _ => ?_, fun i => ?_⟩
  · have h : (withSlot record 2000000).slot i = if 311 = i.val then slotHolding record else .cold := get_one _ _ _ _
    have hl : (withSlot record 2000000).registry.changeList = [311] := by decide +kernel
    rw [h, hl]
    split
    · next hi => exact ⟨fun _ => by decide, fun _ => by simp [Fin.ext_iff, ← hi]⟩
    · next hi =>
      exact ⟨fun hm => absurd (by simpa [Fin.ext_iff, eq_comm] using hm) hi, fun hm => absurd hm (by decide)⟩
  · have h : (withSlot record 2000000).slot i = if 311 = i.val then slotHolding record else .cold := get_one _ _ _ _
    rename_i hm
    rw [h] at hm ⊢
    split
    · decide
    · next hi => rw [if_neg hi] at hm; exact absurd hm (by decide)
  · have h : (withSlot record 2000000).slot i = if 311 = i.val then slotHolding record else .cold := get_one _ _ _ _
    rw [h]; split <;> decide
theorem test_O45_hypothesis :
    ((withSlot record 2000000).slot 311).record.excursion ≤ 4294967295 ∧
    (∀ f, Instr.statisticsClear ≠ .writeReefers 311 f) ∧ Instr.statisticsClear ≠ .restart ∧
    ¬inRange 0 311 311 ∧ Instr.clearReefers 0 311 ≠ .coldReset := by
  refine ⟨by decide +kernel, fun f => by simp, by decide, by decide, by decide⟩
theorem test_O49_hypothesis :
    (withNotices [notice 3, notice 6] none 0).noticesLegal ∧ (withCrane crane 1100).buffersLegal := by
  unfold State.noticesLegal State.buffersLegal; decide +kernel
theorem test_O49_sizes : (withCrane crane 1100).sizesLegal := by
  refine ⟨by decide +kernel, fun i => ?_, by decide +kernel, by decide +kernel, fun e h => by cases h⟩
  have h : (withCrane crane 1100).slot i = .cold := rfl
  rw [h]; decide

/-! ### Arriving frames -/

/-- What becomes of an arriving frame. -/
def fate (p : Port) (f : Frame) (s : State) : Option Disposition := lastDisposition (ran (.frameArrival p f true) s)

/-- A frame from a management station to the part (R196): the commands it carries after the header of tag 0x2A17. -/
def managed (dst : Address) (commands : List (List Byte)) : Frame :=
  { dst := dst, src := 9, etherType := 0x88B5
    data := bytes [0, 0, 0x2A, 0x17, commands.length, 0, 0, 0] ++ commands.flatten }

theorem test_O13_no_link :
    (State.reset.store.port .q0).up = false ∧ (ran (.frameArrival .q0 plain true) .reset).arrivals .q0 = .zero := by
  decide +kernel
theorem test_O13_wrong_check :
    (base.store.port .q0).up = true ∧
    ((ran (.frameArrival .q0 plain false) base).store.port .q0).receiveErrors = 1 := by decide +kernel
theorem test_O13_foreign :
    plain.etherType ≠ base.bearerType ∧ plain.etherType ≠ base.identity.managementEtherType ∧
    (ran (.frameArrival .q0 plain true) base).arrivals .q0 = ⟨1, 1, 0⟩ := by decide +kernel
theorem test_O13_management :
    let f := managed base.identity.station [bytes [13, 0, 0, 4]]
    (ran (.frameArrival .q1 f true) base).arrivals .q1 = ⟨1, 0, 1⟩ ∧
    (ran (.frameArrival .y { f with dst := 5 } true) base).arrivals .y = ⟨1, 1, 0⟩ ∧
    fate .y f base = some .management ∧
    (ran (.frameArrival .y f true) base).endpoint.requests =
      [{ tag := 0x2A17, source := 9, commands := [wire 13 []] }] := by
  decide +kernel
/-- A full list, one that leaves room, a source not listed, and a malformed request (R181). -/
theorem test_O14_judgement :
    let f := managed 0 [bytes [13, 0, 0, 4]]
    let q : Request := { tag := 1, source := 2, commands := [wire 13 []] }
    let waiting := fun n => { base with endpoint := { base.endpoint with requests := List.replicate n q } }
    let managers : Table Address := { blank := 0, listed := [(2, 8)] }
    (judgeRequest f (waiting 4)).endpoint.overrun = 1 ∧ (judgeRequest f (waiting 3)).endpoint.requests.length = 4 ∧
    (judgeRequest f { base with endpoint := { base.endpoint with managers := managers } }).endpoint.rejected = 1 ∧
    (judgeRequest { f with src := 8 } { base with endpoint := { base.endpoint with managers := managers }
      }).endpoint.requests.length = 1 ∧
    (judgeRequest (managed 0 []) base).endpoint.malformed = 1 ∧
    (judgeRequest { f with data := f.data.take 11 } base).endpoint.malformed = 1 := by decide +kernel
theorem test_O15_hypothesis :
    1 ≤ [wire 5 [0, 128, 0], wire 13 []].length ∧
    ∀ w ∈ [wire 5 [0, 128, 0], wire 13 []], w.wellFormed = true := by decide +kernel
theorem test_O15_longest : (⟨99, 0xFFFF, List.replicate 65531 0⟩ : WireCommand).wellFormed = true := by
  simp [WireCommand.wellFormed, -List.reduceReplicate]
theorem test_O15_short : (⟨1, 0, []⟩ : WireCommand).wellFormed = true := by decide
theorem test_O16_header :
    base.takesBearer .y (bearerFrame 0x40 3 9 1 []) ∧ headerFaulty .y (bearerFrame 0x40 3 9 1 []) ∧
    headerFaulty .q0 (bearerFrame 0x80 3 9 1 []) ∧ headerFaulty .q0 (bearerFrame 0xC0 3 9 1 []) ∧
    headerFaulty .q0 { plain with data := List.replicate 9 1 } ∧
    ¬headerFaulty .q0 (bearerFrame 0x40 3 9 1 []) ∧ fate .y (bearerFrame 0x40 3 9 1 []) base = some .dropMalformed := by
  unfold State.takesBearer headerFaulty; decide +kernel
/-- Payloads of 1900 and 1901 bytes (R3). -/
theorem test_O16_payload :
    let f := fun n => { plain with etherType := 0x88B6, data := bytes [1, 0x40, 3, 0, 9, 0, 1, n / 256, n % 256, 0] }
    ¬headerFaulty .q0 (f 1900) ∧ headerFaulty .q0 (f 1901) ∧ lengthFaulty (f 1) ∧ ¬lengthFaulty (f 0) := by
  unfold headerFaulty lengthFaulty; decide +kernel
/-- A trailer of four neighbours, and one that announces five (R4). -/
theorem test_O16_neighbours :
    let f := fun n => { plain with etherType := 0x88B6, data := bytes ([1, 0x41, 3, 0, 9, 0, 1, 0, 26, 0] ++
      List.replicate 26 0 ++ [70, n] ++ List.replicate (2 * n) 4) }
    ¬lengthFaulty (f 4) ∧ lengthFaulty (f 5) ∧ (f 4).data.length = 46 := by
  unfold lengthFaulty; decide +kernel
/-- The well-formed frame of the next tests, for a bearer. -/
def upFrame (bearer : Nat) : Frame := bearerFrame 0x40 3 bearer 1 (control 77 1)
theorem test_O17_hypothesis :
    base.takesBearer .q0 (upFrame 0) ∧ ¬headerFaulty .q0 (upFrame 0) ∧ ¬lengthFaulty (upFrame 0) ∧
    (readHeader (upFrame 0).data).direction = some .up ∧ fate .q0 (upFrame 0) base = some .dropNull := by
  unfold State.takesBearer headerFaulty lengthFaulty; decide +kernel
theorem test_O17_absent :
    (base.bearer 4095).treatment = .absent ∧ fate .q0 (upFrame 4095) base = some .dropAbsent ∧
    ((ran (.frameArrival .q0 (upFrame 4095) true) base).bearer 4095).touched = true := by decide +kernel
theorem test_O17_redirect :
    let s := withBearer 9 (.redirect 10) (withBearer 10 (.general none) (withBearer 8 (.redirect 9) base))
    (s.bearer 9).treatment = .redirect 10 ∧ (s.bearer 10).treatment = .general none ∧
    fate .q0 (upFrame 9) s = some .forwarded ∧ fate .q0 (upFrame 8) s = some .dropRedirectFault ∧
    ((ran (.frameArrival .q0 (upFrame 9) true) s).bearer 10).framesPassed = 1 := by decide +kernel
theorem test_O17_kinds :
    let s := withBearer 11 (.crane 2) (withBearer 12 (.reefer 311 true) base)
    (s.bearer 11).treatment = .crane 2 ∧ (s.bearer 12).treatment = .reefer 311 true ∧
    fate .q0 (upFrame 11) s = some .forwarded ∧ fate .q0 (upFrame 12) s = some .dropMalformed := by decide +kernel

/-- The descriptor of the worked example of 1.6: rate 100, burst 2, DROP, at a level and a stamp. -/
def policed (level : Nat) (stamp : QuayTime) : Descriptor :=
  { descriptor (.general none) with rate := 100, burst := 2, level := level, stamp := stamp }

theorem test_O18_first :
    (policed 2048 1000).police 1000 1510 = .conforms ∧ ((policed 2048 1000).drawn 1000 1510).level = 538 := by decide
theorem test_O18_excess :
    (policed 538 1000).police 1000 1010 = .dropped ∧ ((policed 538 1000).drawn 1000 1010).level = 538 ∧
    { policed 538 1000 with demote := true }.police 1000 1010 = .demoted := by decide
theorem test_O18_refill : ((policed 538 1000).drawn 1001 1010).level = 328 ∧
    ((policed 328 1001).drawn 1004 1510).level = 538 := by decide
theorem test_O18_wrap : ((policed 0 4294967290).drawn 4 0).level = 2048 ∧
    ((policed 0 0).drawn 0x80000000 0).level = 2048 := by decide
theorem test_O18_rate_zero : { policed 0 7 with rate := 0 }.police 9 2000 = .conforms := by decide

/-- A bearer with an empty bucket, and a frame of 14 bytes on it. -/
def starved (t : Treatment) (demote : Bool) (s : State) : State :=
  s.setBearer 30 { policed 13 0 with treatment := t, demote := demote }

theorem test_O19_dropped :
    let s := starved (.general none) false base
    (readHeader (upFrame 30).data).direction = some .up ∧
    (s.bearer 30).police s.quayTime 14 = .dropped ∧ fate .q0 (upFrame 30) s = some .dropPoliced ∧
    ((ran (.frameArrival .q0 (upFrame 30) true) s).bearer 30).framesPoliced = 1 := by decide +kernel
theorem test_O19_crane_excess :
    let s := starved (.crane 2) true base
    (s.bearer 30).police s.quayTime 14 = .dropped ∧
    ((ran (.frameArrival .q0 (upFrame 30) true) s).link 2).counts.controlExcess = 1 := by decide +kernel
theorem test_O19_demoted :
    let s := starved (.general none) true base
    (s.bearer 30).police s.quayTime 14 = .demoted ∧
    ((ran (.frameArrival .q0 (upFrame 30) true) s).store.queue .y 3).admitted = 1 ∧
    ((ran (.frameArrival .q0 (upFrame 30) true) s).bearer 30).bytesPassed = 14 := by decide +kernel
theorem test_O19_record :
    recordMissing (.crane 2) .up (bytes [0, 0, 1, 0, 7]) ∧ ¬recordMissing (.crane 2) .up (control 77 1) := by
  constructor
  · exact Or.inl ⟨2, rfl, by decide⟩
  · rintro (⟨l, -, h⟩ | ⟨i, a, h, -⟩)
    · exact absurd h (by decide)
    · cases h
/-- Under a redirection the frame waits with both its own bearer and the governing descriptor (R6, R13). -/
theorem test_O19_redirected :
    let s := withBearer 9 (.redirect 10) (withBearer 10 (.general (some 5)) base)
    ((ran (.frameArrival .q0 (upFrame 9) true) s).store.port .y).tx.map (fun t => t.entry.origin) =
      some (.forwarded {
        port := .q0, direction := .up, bearer := 9, sequence := 1, requested := 0, cell := 3, governing := 10
        treatment := .general (some 5), cls := 0, length := 14, home := none, trailer := none, record := none
        crane := none }) := by
  decide +kernel

/-- A passed frame without a trailer, down to a cell. -/
def passed (t : Treatment) (dir : Direction) (cell bearer sequence : Nat) (payload : List Byte) : Passed :=
  let f := bearerFrame (if dir = .up then 0x40 else 0x80) cell bearer sequence payload
  { port := if dir = .up then .q0 else .y, frame := f, header := readHeader f.data, direction := dir
    governing := bearer, treatment := t, cls := 0, home := some 6, trailer := none, payload := payload }

theorem test_O20_named_cell :
    let r := passed (.general none) .down 3 9 1 []
    namesCell r 3 ∧ base.cellUp 3 = true ∧ ((handOn r base).store.queue .q0 0).admitted = 1 := by
  unfold namesCell; decide +kernel
theorem test_O20_home_cell :
    let r := passed (.general none) .down 7 9 1 []
    (∀ c, namesCell r c → base.cellUp c = false) ∧ base.cellUp 6 = true ∧
    ((handOn r base).store.queue .q1 0).admitted = 1 := by
  unfold namesCell; decide +kernel
theorem test_O20_no_cell :
    let r := { passed (.general none) .down 255 9 1 [] with home := none }
    (∀ c, namesCell r c → base.cellUp c = false) ∧ (handOn r base).store.noCell = 1 ∧
    lastDisposition (handOn r base) = some .dropNoCell := by
  unfold namesCell; decide +kernel
theorem test_O20_absorbed :
    let r := passed (.reefer 311 true) .up 3 9 1 (mark ++ bytes [10, 255, 74, 255, 86, 255, 76, 1, 0])
    let s := withSlot .never 1000000
    (handOn r s).registry.absorbed = 1 ∧ lastDisposition (handOn r s) = some .absorbed ∧
    ((handOn r s).slot 311).record.confirmed = some (-182) ∧ (handOn r s).store.free = 16384 := by decide +kernel

/-! ### The Capture Unit -/

/-- A unit in a state and mode with a matcher A that takes everything, over N and Pc. -/
def capturing (state : CaptureState) (mode : CaptureMode) (n post : Nat) : State :=
  { base with capture := { CaptureUnit.cold with
      state := state
      config := { CaptureConfig.cold with
        a := { Matcher.cold with enable := true }, mode := mode, n := n, post := post, matchedOnly := true } } }
/-- A presentation of a downlink frame of bearer 1204. -/
def seen : Verdict :=
  { port := .y, direction := some .down, identity := some (1204, 301), size := 64, cls := some 0, kind := .crane
    craneState := some .hold, disposition := .dropLate }

theorem test_O21_counts :
    let c := (present seen (capturing .armed .countA 2 1)).capture
    c.state = .armed ∧ c.triggerCount = 1 ∧ c.hitA = true ∧ c.hitB = false ∧ c.buffer.length = 1 ∧ c.triggers = 0 := by
  decide +kernel
theorem test_O21_triggers :
    let t := present seen (capturing .armed .countA 1 1)
    t.capture.state = .post ∧ t.capture.triggers = 1 ∧ t.notices.queue.map Notice.data = [some 1204] := by decide +kernel
theorem test_O21_freezes_at_once :
    let t := present seen (capturing .sequence .bThenCountA 1 0)
    t.capture.state = .frozen ∧ t.notices.queue.map Notice.event = [.triggered, .frozen] := by decide +kernel
theorem test_O21_trace :
    (present seen (capturing .armed .aThenTrace 9 0)).capture.state = .tracing ∧
    (present seen (capturing .tracing .trace 1 0)).capture.state = .frozen ∧
    (present seen (capturing .tracing .trace 2 0)).capture.state = .tracing := by decide +kernel
theorem test_O21_post :
    (present seen (capturing .post .countA 1 1)).capture.state = .frozen ∧
    (present seen (capturing .post .countA 1 2)).capture.postCount = 1 ∧
    (present seen (capturing .frozen .countA 1 1)).capture.buffer = [] ∧
    (present seen (capturing .off .countA 1 1)).capture.hitA = true := by decide +kernel
/-- In ARMED with B_THEN_COUNT_A, a frame that meets B takes the unit to SEQUENCE with the trigger count at 0 (R170). -/
theorem test_O21_sequence :
    let s := capturing .armed .bThenCountA 2 0
    let u := { s.capture with triggerCount := 5, config := { s.capture.config with b := s.capture.config.a } }
    (u.config.b.meets seen) = true ∧
    (present seen { s with capture := u }).capture.state = .sequence ∧
    (present seen { s with capture := u }).capture.triggerCount = 0 ∧
    (present seen { s with capture := { u with state := .off } }).capture.triggerCount = 5 := by decide +kernel

/-! ### Crane links -/

/-- A write of link 4 with the configuration of the worked example, an eight-byte template of zeros. -/
def craneFields (enable : Byte) : CraneFields :=
  { enable := enable, threshold := 3, bearer := 1204, period := 50, jitter := 10, recovery := 3, templateLength := 8
    overlap := 0, window := 2000, tokenA := 0xA0, tokenB := 0xB0, degradedLevel := 3, holdLevel := 6
    releasedLevel := 4, pathPoorLevel := 3, template := List.replicate 64 0 }

theorem test_O23_hypotheses :
    base.endpoint.executing = none ∧ ¬craneFieldsFaulty (craneFields 1) ∧
    craneFieldsFaulty { craneFields 1 with period := 501 } ∧
    ¬craneFieldsFaulty { craneFields 1 with period := 500 } ∧ craneFieldsFaulty { craneFields 1 with jitter := 51 } := by
  unfold craneFieldsFaulty
  refine ⟨?_, ?_, ?_, ?_, ?_⟩ <;> decide +kernel
theorem test_O23_arms :
    let s := withCrane .cold 1000
    readCrane (craneFields 1) = some craneConfig ∧ (s.bearer 1204).treatment = .crane 4 ∧
    result (.writeCranes 4 (craneFields 1)) s = some .ok ∧
    ((ran (.writeCranes 4 (craneFields 1)) s).link 4).state = .arming := by decide +kernel
theorem test_O23_refusals :
    let s := withCrane heldCrane 1300
    result (.writeCranes 16 (craneFields 1)) s = some .badIndex ∧
    result (.writeCranes 5 (craneFields 1)) s = some .badValue ∧
    result (.writeCranes 4 { craneFields 1 with period := 60 }) s = some .busy ∧
    result (.writeCranes 4 (craneFields 0)) s = some .refused ∧
    sameButLevels { craneConfig with holdLevel := 7 } craneConfig := by unfold sameButLevels; decide +kernel
/-- Bytes past the template length are no reason to refuse, and are not part of the template (R46, R183 test 6). -/
theorem test_O23_template_tail :
    let f := { craneFields 1 with template := List.replicate 8 0 ++ List.replicate 56 9 }
    readCrane f = some craneConfig ∧ result (.writeCranes 4 f) (withCrane .cold 1000) = some .ok := by decide +kernel
theorem test_O23_disables :
    let s := withCrane { crane with commitPending := true } 1100
    result (.writeCranes 4 (craneFields 0)) s = some .ok ∧
    ((ran (.writeCranes 4 (craneFields 0)) s).link 4).state = .idle ∧
    (ran (.writeCranes 4 (craneFields 0)) s).paths.active.get 273 = ⟨none, none⟩ := by decide +kernel
theorem test_O23_levels_of_held :
    result (.writeCranes 4 { craneFields 1 with holdLevel := 7 }) (withCrane heldCrane 1300) = some .ok := by
  decide +kernel
theorem test_O23_clears :
    let s := withCrane crane 1100
    result (.clearCranes 0 0) s = some .badValue ∧ result (.clearCranes 4 13) s = some .badIndex ∧
    result (.clearCranes 4 12) s = some .busy ∧ result (.clearCranes 5 11) s = some .ok := by decide +kernel

/-- A control frame of bearer 1204 through the link. -/
def up (sequence : Nat) (payload : List Byte) : Passed := passed (.crane 4) .up 3 1204 sequence payload
def down (sequence : Nat) (payload : List Byte) : Passed := passed (.crane 4) .down 3 1204 sequence payload

theorem test_O27_idle :
    let s := withCrane .cold 1000
    (s.link 4).state = .idle ∧ lastDisposition (handOn (up 10 (control 77 1)) s) = some .forwarded ∧
    (((handOn (down 10 (control 77 1)) s).store.port .q0).tx.map fun t => t.entry.origin) =
      some (.control ((down 10 (control 77 1)).result (some .idle))) := by
  decide +kernel
theorem test_O27_stray :
    let s := withCrane crane 1100
    let t := handOn (passed (.crane 4) .up 3 1205 12 (control 77 1)) s
    (s.link 4).state ≠ .idle ∧ (t.link 4).counts.strayFrames = 1 ∧ lastDisposition t = some .dropHeld := by
  decide +kernel
theorem test_O27_duplicate_and_late :
    let s := withCrane crane 1100
    (s.link 4).lastSeq .up = some 11 ∧ lastDisposition (handOn (up 11 (control 77 1)) s) = some .dropDuplicate ∧
    lastDisposition (handOn (up 10 (control 77 1)) s) = some .dropLate ∧
    lastDisposition (handOn (up 32779 (control 77 1)) s) = some .dropLate ∧
    lastDisposition (handOn (up 32778 (control 77 1)) s) = some .forwarded := by decide +kernel
/-- The example of 3.4: after 65,534, sequence 1 is accepted with a gap of 2, and 65,535 is then late. -/
theorem test_O28_gap :
    let s := withCrane { crane with upSeq := some 65534 } 1100
    sequenceAccepted ((s.link 4).lastSeq .up) 1 2 ∧
    ((handOn (up 1 (control 77 1)) s).link 4).counts.gapFrames = 2 ∧
    lastDisposition (handOn (up 65535 (control 77 1)) (handOn (up 1 (control 77 1)) s)) = some .dropLate := by
  refine ⟨Or.inr ⟨65534, by decide +kernel⟩, ?_⟩
  decide +kernel
theorem test_O28_completes_arming :
    let s := withCrane { crane with state := .arming, downSeq := none, lastSent := none } 1012
    let t := handOn (down 200 (control 0 0)) s
    sequenceAccepted ((s.link 4).lastSeq .down) 200 0 ∧ (t.link 4).state = .live ∧
    (t.link 4).downDeadline = some 1072 ∧ (t.link 4).lastSent = some 200 := by
  refine ⟨Or.inl (by decide +kernel), ?_⟩
  decide +kernel
theorem test_O28_recovers :
    let s := withCrane { crane with state := .degraded, missed := 1, streak := 2 } 1100
    let t := handOn (up 12 (control 77 2)) s
    (t.link 4).state = .live ∧ (t.link 4).missed = 0 ∧ (t.link 4).upDeadline = some 1160 ∧ (t.link 4).boom = .down := by
  decide +kernel
theorem test_O28_unknown_position :
    let t := handOn (up 12 (control 255 9)) (withCrane crane 1100)
    (t.link 4).segment = none ∧ (t.link 4).boom = .unknown := by decide +kernel
/-- The release handshake of the worked example of chapter 3. -/
theorem test_O28_token_a :
    let s := withCrane heldCrane 1290
    let t := handOn (down 202 (controlToken 0xA0)) s
    (s.link 4).state = .hold ∧ (t.link 4).state = .releasing ∧ (t.link 4).releaseExpiry = some 3290 ∧
    lastDisposition t = some .dropHeld ∧ (t.link 4).lastSent = some 202 := by decide +kernel
theorem test_O29_token_b :
    let k := { heldCrane with state := .releasing, releaseExpiry := some 3290, downSeq := some 202 }
    let t := readToken 4 0xB0 (withCrane k 1340)
    k.state = .releasing ∧ (t.link 4).state = .live ∧ (t.link 4).upDeadline = some 1400 ∧
    (t.link 4).downDeadline = some 1400 ∧ t.notices.queue.map Notice.event = [.released] := by decide +kernel
theorem test_O29_ignored :
    ((readToken 4 0xB0 (withCrane heldCrane 1340)).link 4).counts.tokensIgnored = 1 ∧
    ((readToken 4 0xA0 (withCrane { heldCrane with upAlive := false } 1340)).link 4).state = .hold := by decide +kernel
theorem test_O30_first_miss :
    let s := withCrane crane 1122
    let t := ran (.deadlineExpiry 4 .down) s
    (s.link 4).deadline .down = some 1122 ∧ reached s.quayTime 1122 = true ∧ (t.link 4).state = .degraded ∧
    (t.link 4).downDeadline = some 1172 ∧ t.notices.queue.map Notice.data = [some 17] := by decide +kernel
theorem test_O30_third_miss :
    let s := withCrane { crane with state := .degraded, missed := 2, downDeadline := some 1222 } 1222
    let t := ran (.deadlineExpiry 4 .down) s
    (s.link 4).config.threshold ≤ (s.link 4).missed + 1 ∧ (t.link 4).state = .hold ∧ (t.link 4).missed = 3 ∧
    (t.link 4).nextHold = some 1272 ∧ (t.link 4).lastSent = some 202 ∧ t.notices.queue.map Notice.level = [6] := by
  decide +kernel
theorem test_O30_not_reached :
    let s := withCrane crane 1121
    (∀ d, (s.link 4).deadline .down = some d → reached s.quayTime d = false) ∧
    ((ran (.deadlineExpiry 4 .down) s).link 4).state = .live ∧
    ((ran (.deadlineExpiry 4 .up) (withCrane { crane with state := .arming } 1115)).link 4).upDeadline = some 1165 := by
  refine ⟨fun d h => ?_, by decide +kernel, by decide +kernel⟩
  have : d = 1122 := (Option.some.inj h).symm
  subst this; decide +kernel
theorem test_O30_releasing_ends :
    let k := { heldCrane with state := .releasing, releaseExpiry := some 3290 }
    ((ran (.deadlineExpiry 4 .up) (withCrane k 1315)).link 4).state = .hold ∧
    ((ran (.releaseExpiry 4) (withCrane k 3290)).link 4).state = .hold ∧
    ((ran (.releaseExpiry 4) (withCrane k 3289)).link 4).state = .releasing := by decide +kernel
theorem test_O30_overlap :
    let k := { crane with previous := [6], overlapExpiry := some 5240 }
    ((ran (.overlapExpiry 4) (withCrane k 5240)).link 4).previous = [] ∧
    ((ran (.overlapExpiry 4) (withCrane k 5239)).link 4).previous = [6] := by decide +kernel
theorem test_O31_order_two :
    let s := withCrane heldCrane 1272
    let t := ran (.holdOrderTimeExpiry 4) s
    (s.link 4).nextHold = some 1272 ∧ (t.link 4).nextHold = some 1322 ∧ (t.link 4).holdCounter = 2 ∧
    (t.link 4).lastSent = some 203 ∧ (t.store.queue .q0 0).admitted = 1 ∧ (t.store.queue .q1 0).admitted = 1 := by
  decide +kernel
theorem test_O31_deferred :
    let s := withCrane { heldCrane with segment := none, resolved := [] } 1272
    ((ran (.holdOrderTimeExpiry 4) s).link 4).counts.holdsDeferred = 1 ∧
    ((ran (.holdOrderTimeExpiry 4) s).link 4).holdCounter = 1 := by decide +kernel
theorem test_O32_hypothesis :
    heldCrane.config.template.length ≤ 64 ∧
    (holdOrder Config.identity 0x88B6 1272 heldCrane heldCrane.holdSequence 2).data =
      padTo 46 (bytes [1, 0x80, 0, 0x04, 0xB4, 0, 203, 0, 16, 0, 0, 0, 0, 0, 0, 0, 0, 0, 1, 0, 0, 2, 0, 0, 4, 0xF8]) := by
  decide +kernel
/-- A copy of the link's bearer waiting on Q0 is withdrawn, one of another bearer stays (R59). -/
theorem test_O33_withdraws :
    let copy := fun b => { entry 1 with origin := .control (cargo b) }
    let s := withCrane { crane with commitPending := true } 1222
    let waiting := s.store.setQueue .q0 0 (holding [copy 1204, copy 77])
    let busy := { waiting.port .q0 with tx := some { entry := entry 5, cls := 3, left := 9 } }
    let t := enterHold 4 .managed { s with store := { waiting.setPort .q0 busy with free := 16381 } }
    (t.store.queue .q0 0).flushed = 1 ∧
    (t.store.queue .q0 0).entries.map QueueEntry.origin = [.control (cargo 77), .holdOrder] ∧
    t.paths.active.get 273 = ⟨none, none⟩ ∧ (t.link 4).commitPending = false := by decide +kernel
/-- A frame of the bearer queued in class 2 as a GENERAL frame is withdrawn too, what other frames wait stays (R59). -/
theorem test_O33_other_kinds :
    let s := withCrane crane 1222
    let waiting := s.store.setQueue .q1 2 (holding
      [entry 3, { entry 1 with origin := .forwarded (cargo 1204) }, { entry 4 with origin := .reply }])
    let w := { waiting with free := 16381 }.withdraw 1204
    (w.queue .q1 2).entries = [entry 3, { entry 4 with origin := .reply }] ∧ (w.queue .q1 2).flushed = 1 ∧
    w.free = 16382 ∧ w.port .q1 = s.store.port .q1 := by decide +kernel
theorem test_O34_hold :
    (withCrane crane 1100).alone ∧
    ((ran (.craneHold 0x10) (withCrane crane 1100)).endpoint.answer.map Answer.value) = some 0x10 ∧
    ((ran (.craneHold 0xFFFF) (withCrane .cold 1100)).endpoint.answer.map Answer.value) = some 0 ∧
    result (.craneHold 0) base = some .badValue := by unfold State.alone; decide +kernel
theorem test_O34_releasing :
    let k := { heldCrane with state := .releasing, releaseExpiry := some 3290 }
    ((ran (.craneHold 0x10) (withCrane k 1300)).link 4).reason = .managed ∧
    ((ran (.craneHold 0x10) (withCrane heldCrane 1300)).link 4).reason = .deadline := by decide +kernel
/-- The orders of two links of a mask go out in rising order, on bearers 1204 and 1205. -/
theorem test_O34_rising :
    let s := withCrane { crane with segment := none } 1100
    let t := ran (.craneHold 0x30)
      (s.setLink 5 { crane with config := { craneConfig with bearer := 1205 }, segment := none })
    (t.store.port .q0).tx.map (fun x => (readHeader x.entry.frame.data).bearer) = some 1204 ∧
    (t.store.queue .q0 0).entries.map (fun e => (readHeader e.frame.data).bearer) = [1205] ∧
    (t.link 4).state = .hold ∧ (t.link 5).state = .hold := by decide +kernel
theorem test_O35_commit :
    ((ran (.commitPaths 0x10 false) (withCrane crane 1100)).endpoint.answer.map Answer.value) = some 0x10 ∧
    (ran (.commitPaths 0x10 false) (withCrane crane 1100)).paths.active.get 273 = ⟨some 3, some 6⟩ ∧
    (ran (.commitPaths 0x10 true) (withCrane crane 1100)).paths.active.get 273 = ⟨none, none⟩ ∧
    ((ran (.commitPaths 0x10 true) (withCrane crane 1100)).link 4).applyNow = true ∧
    ((ran (.commitPaths 0x10 true) (withCrane .cold 1100)).link 4).applyNow = false ∧
    result (.commitPaths 0 true) base = some .badValue := by decide +kernel

/-- The coverage of segment 17 at cell 3 judged a HOLE. -/
def holed (s : State) : State :=
  { s with coverage := { s.coverage with entries := { blank := .cold, listed := [(547, {
      state := .hole, estimate := 1271, count := 12, lastTime := 0, age := some 600000 })] } } }

theorem test_O36_primary : (withCrane crane 1100).resolution 4 none = ([3], some false) := by decide +kernel
theorem test_O36_alternate : (holed (withCrane crane 1100)).resolution 4 none = ([6], some false) := by decide +kernel
theorem test_O36_poor :
    let s := holed (withCrane crane 1100)
    let cells : Table CellEntry := { blank := .cold, listed := [(3, cellOn 0)] }
    ({ s with classifier := { s.classifier with cells := cells } } : State).resolution 4 none = ([3], some true) := by
  decide +kernel
theorem test_O36_no_segment :
    (withCrane { crane with segment := none } 1100).resolution 4 (some 6) = ([3], none) ∧
    (withCrane { crane with segment := none, resolved := [] } 1100).resolution 4 (some 6) = ([6], none) ∧
    (withCrane { crane with segment := none, resolved := [9] } 1100).resolution 4 (some 8) = ([], none) := by
  decide +kernel
theorem test_O37_same_cells :
    let s := withCrane crane 1100
    (resolveAndSend 4 (down 202 []) none s).links = s.links ∧
    lastDisposition (resolveAndSend 4 (down 202 []) none s) = some .forwarded := by decide +kernel
theorem test_O37_changes :
    let s := withCrane { crane with resolved := [6], config := { craneConfig with overlap := 200 } } 5040
    let t := resolveAndSend 4 (down 202 []) none s
    (t.link 4).resolved = [3] ∧ (t.link 4).previous = [6] ∧ (t.link 4).overlapExpiry = some 5240 ∧
    (t.link 4).counts.pathChanges = 1 ∧ (t.store.queue .q0 0).admitted = 1 ∧ (t.store.queue .q1 0).admitted = 1 := by
  decide +kernel
theorem test_O37_no_path :
    let s := withCrane { crane with segment := none, resolved := [9] } 1100
    let t := resolveAndSend 4 { down 202 [] with home := none } none s
    (t.link 4).resolved = [9] ∧ (t.link 4).counts.noPath = 1 ∧ lastDisposition t = some .dropNoPath := by decide +kernel
/-- A changed set without an overlap window closes the one that stands (R89). -/
theorem test_O37_closes :
    let s := withCrane { crane with resolved := [6], previous := [9], overlapExpiry := some 5300 } 5040
    let t := resolveAndSend 4 (down 202 []) none s
    (s.resolution 4 none).1 = [3] ∧ (s.link 4).config.overlap = 0 ∧ (t.link 4).resolved = [3] ∧
    (t.link 4).previous = [] ∧ (t.link 4).overlapExpiry = none := by decide +kernel
/-- A send set of cells that are not present is passed over whole (R91). -/
theorem test_O37_passed_over :
    let s := withCrane { crane with resolved := [9], previous := [8] } 1100
    let t := sendCopies 4 (down 202 []) none s
    (offerOnCells (.control (cargo 1204)) plain [9, 8] s).1 = [] ∧ lastDisposition t = some .dropNoPath ∧
    (t.link 4).counts.noPath = 1 ∧ (t.link 4).resolved = [9] := by decide +kernel

/-! ### Coverage -/

/-- The steps of the table of R99 and of the worked example of chapter 5. -/
theorem test_O38_steps :
    coverStep 1600 80 50 = -63 ∧ coverStep 1537 60 50 = -113 ∧ coverStep 1424 40 50 = -153 ∧
    coverStep 1271 100 50 = 64 ∧ coverStep 1335 100 50 = 52 ∧ coverStep 1120 74 50 = 13 ∧ coverStep 1099 120 16 = 51 ∧
    movedEstimate 1600 80 50 = 1537 := by decide
/-- An entry at (20, 3) of an estimate, GOOD, of 11 samples. -/
def covered (estimate : Nat) (state : CoverState) : State :=
  { base with coverage := { base.coverage with entries := { blank := .cold, listed := [(643, {
      state := state, estimate := estimate, count := 11, lastTime := 0, age := some 600000 })] } } }
theorem test_O39_hole_set :
    let t := takeSample 643 40 50 (covered 1424 .good)
    (t.cover 643).state = .hole ∧ (t.cover 643).estimate = 1271 ∧ t.coverage.holesSet = 1 ∧
    t.notices.queue.map Notice.data = [some 1271] := by decide +kernel
theorem test_O39_hysteresis :
    ((takeSample 643 100 50 (covered 1271 .hole)).cover 643).state = .hole ∧
    ((takeSample 643 100 50 (covered 1335 .hole)).cover 643).state = .good ∧
    ((takeSample 643 100 50 (covered 1335 .hole)).notices.queue.map Notice.level) = [2] := by decide +kernel
theorem test_O39_seeds :
    let t := offerTrailer false (some 12) 3 (some ⟨70, [(6, 9), (40, 9)]⟩) base
    (t.cover 387).estimate = 1120 ∧ (t.cover 390).count = 1 ∧ t.coverage.skipped = 1 ∧ t.coverage.taken = 2 ∧
    (∀ c : Cell, (40 : Byte).toNat = c.val → (base.cell c).present = false) := by decide +kernel
theorem test_O39_shadow :
    let s := withCrane { crane with boom := .down } 1100
    (∃ l, (s.link l).state ≠ .idle ∧ (s.link l).segment = some 17 ∧ (s.link l).boom = .down) ∧
    (offerTrailer false (some 17) 3 (some ⟨70, []⟩) s).coverage.shadowed = 1 ∧
    (offerTrailer false (some 17) 3 (some ⟨70, []⟩) (setTo 40 0 s)).coverage.discarded = 1 ∧
    (offerTrailer true (some 17) 3 (some ⟨70, []⟩) (setTo 40 0 s)).coverage.taken = 1 := by decide +kernel
theorem test_O40_age :
    let s := { covered 1271 .hole with quayTime := 600000 }
    (s.cover 643).age = some 600000 ∧ reached s.quayTime 600000 = true ∧
    ((ran (.ageDeadlineExpiry 643) s).cover 643).state = .unknown ∧
    ((ran (.ageDeadlineExpiry 643) s).cover 643).estimate = 1271 ∧
    ((ran (.ageDeadlineExpiry 643) { s with quayTime := 599999 }).cover 643).count = 11 := by decide +kernel
theorem test_O40_stale :
    let s := withSlot { record with changed := false } 2800000
    let t := ran (.staleDeadlineExpiry 311) s
    (t.slot 311).record.freshness = .stale ∧ t.registry.changeList = [311] ∧
    t.notices.queue.map Notice.event = [.staleEnter] ∧
    ((ran (.staleDeadlineExpiry 311) { s with quayTime := 2799999 }).slot 311).record.freshness = .fresh := by
  decide +kernel
theorem test_O40_lost :
    let t := ran (.lostDeadlineExpiry 311) (withSlot { record with stale := none } 5500000)
    (t.slot 311).record.freshness = .lost ∧ (t.slot 311).record.confirmed = none ∧ t.registry.changeList = [311] ∧
    t.notices.queue.map Notice.data = [none] := by decide +kernel

/-! ### Reefer Registry, Summary Builder, Notice Unit -/

theorem test_O42_refused :
    let s := withSlot record 2000000
    (s.slot 311).config.registered = true ∧ (report 13 (-147) 1).mark = (s.slot 311).config.mark ∧
    (takeReport 311 (report 13 (-147) 1) s).registry.repeated = 1 ∧
    (takeReport 311 { report 14 (-147) 1 with mark := bytes [65] } s).registry.mismatched = 1 ∧
    (takeReport 311 { report 14 (-147) 1 with mark := bytes [65] } s).notices.queue.map Notice.data = [some 14] ∧
    (s.slot 310).config.registered = false ∧
    (takeReport 310 (report 14 (-147) 1) s).registry.unregistered = 1 := by decide +kernel
/-- The spike filter of the worked example of chapter 6. -/
theorem test_O43_filter :
    spikeFilter 20 (some (-182)) none none 0 = (some (-182), none, 0) ∧
    spikeFilter 20 (some (-150)) (some (-182)) none 0 = (some (-182), some (-150), 1) ∧
    spikeFilter 20 (some (-148)) (some (-182)) (some (-150)) 1 = (some (-182), some (-150), 2) ∧
    spikeFilter 20 (some (-145)) (some (-182)) (some (-150)) 2 = (some (-145), some (-150), 0) ∧
    spikeFilter 20 (some (-165)) (some (-147)) (some (-90)) 1 = (some (-165), some (-90), 0) ∧
    spikeFilter 20 (some (-162)) (some (-182)) (some (-90)) 1 = (some (-162), some (-90), 0) ∧
    spikeFilter 20 (some (-100)) (some (-182)) (some (-150)) 1 = (some (-182), some (-100), 1) ∧
    ((1 : Nat) ≠ 0 → some (-90 : Int) ≠ none) := by decide
/-- Reports 14 and 16 of that example. -/
theorem test_O44_excursion :
    let t := takeReport 311 (report 14 (-147) 1) (withSlot record 2200000)
    (t.slot 311).record.excursion = 4500 ∧ (t.slot 311).record.high = true ∧
    (t.slot 311).record.stale = some 3100000 ∧ t.registry.changeList = [311] := by decide +kernel
theorem test_O44_high_leaves :
    let s := withSlot { record with confirmed := some (-147), power := some .defrost } 2200000
    let t := takeReport 311 (report 16 (-165) 1) s
    (t.slot 311).record.high = false ∧ t.notices.queue.map Notice.event = [.highLeave] ∧
    t.notices.queue.map Notice.data = [some (BitVec.ofInt 16 (-165))] := by decide +kernel
theorem test_O44_first_report :
    let t := takeReport 311 (report 10 (-182) 1) (withSlot .never 1000000)
    (t.slot 311).record.freshness = .fresh ∧ (t.slot 311).record.excursion = 0 ∧ t.registry.changeList = [311] ∧
    (t.slot 311).record.rangeFlag = false ∧ t.notices.queue = [] := by decide +kernel
theorem test_O44_limits :
    let t := takeReport 311 { report 14 501 9 with alarmCount := 5, alarms := bytes [7, 0, 8, 9] } (withSlot record 2200000)
    (t.slot 311).record.rangeFlag = true ∧ (t.slot 311).record.candidate = some 500 ∧
    (t.slot 311).record.power = some .off ∧ (t.slot 311).record.alarms = bytes [7, 8, 9] := by decide +kernel
theorem test_O44_stale_leaves :
    let s := withSlot { record with freshness := .stale, stale := none } 3000000
    (takeReport 311 (report 14 (-147) 1) s).notices.queue.map Notice.event = [.staleLeave] := by decide +kernel

/-- Slot 311 changed, with a destination for summaries, and frames waiting in class 3 of the yard port. -/
def listed (waiting : Nat) (passing : Bool) (dst : Nat) : State :=
  let s := setTo 49 dst (withSlot record 60000)
  { s with
    store := s.store.setQueue .y 3 (holding (List.replicate waiting (entry 1)))
    summary := { s.summary with passing := passing } }

theorem test_O46_admitted :
    let t := ran .frameStep (listed 63 true 5)
    t.summary.framesSent = 1 ∧ t.summary.counter = 1 ∧ t.registry.changeList = [] ∧ t.summary.passing = true ∧
    (t.slot 311).record.changed = false ∧ (t.slot 311).record.summarised = some (-145) := by decide +kernel
theorem test_O46_deferred :
    (ran .frameStep (listed 64 true 5)).summary.passesDeferred = 1 ∧
    (ran .frameStep (listed 64 true 5)).summary.passing = false ∧
    (ran .frameStep (listed 0 false 5)).summary.counter = 0 := by decide +kernel
theorem test_O46_refused :
    let s := listed 0 true 5
    let t := ran .frameStep { s with store := { s.store with free := 512 } }
    t.summary.framesRefused = 1 ∧ t.summary.passing = false ∧ t.registry.changeList = [311] := by decide +kernel
theorem test_O46_ends :
    (ran .frameStep (listed 0 true 0)).summary.passing = false ∧
    (ran .frameStep (setTo 49 5 { base with summary := { base.summary with passing := true } })).summary.passesCompleted =
      1 := by decide +kernel
/-- Destination 0 written in mid-pass and the expiry before the next step: the overrun is counted (log entry 27). -/
theorem test_O46_overrun_without_destination :
    let t := ran .summaryTimerExpiry (listed 0 true 0)
    t.summary.overruns = 1 ∧ t.summary.passing = true ∧ t.summary.timer = 120000 := by decide +kernel
theorem test_O46_timer :
    reached 60000 (listed 0 false 5).summary.timer = true ∧
    (ran .summaryTimerExpiry (listed 0 false 5)).summary.timer = 120000 ∧
    (ran .summaryTimerExpiry (listed 0 false 5)).summary.framesSent = 1 ∧
    (ran .summaryTimerExpiry (listed 0 true 5)).summary.overruns = 1 ∧
    (ran .summaryTimerExpiry (listed 0 false 0)).summary.timer = 120000 ∧
    (ran .summaryTimerExpiry base).summary.timer = 60000 := by decide +kernel
/-- A summary frame, byte by byte from R194: slot 311 with −145, −170 and −180, power on, HIGH, FRESH. -/
theorem test_O46_bytes :
    (summaryFrame Config.identity 5 60000 1 [(311, slotHolding record)]).data =
      bytes [4, 0, 0, 1, 0, 0, 0xEA, 0x60, 1, 0, 1, 0x37] ++ mark ++
        bytes [0xFF, 0x6F, 0xFF, 0x56, 0xFF, 0x4C, 1, 1, 1, 0, 0, 0, 0, 0] ++ List.replicate 9 0 := by decide +kernel

/-- 64 queued notices, the lowest of level 3. -/
def full : State := withNotices (List.replicate 62 (notice 4) ++ [notice 3, notice 6]) (some 10080) 5

theorem test_O47_floor :
    (base.notify .holeSet 5 1 none).notices.suppressed.coverage = 1 ∧ (base.notify .holeSet 5 0 none) = base ∧
    (base.notify .holeSet 5 2 none).notices.queue.length = 1 := by decide +kernel
theorem test_O47_full :
    full.notices.queue.length = 64 ∧ (∃ m ∈ full.notices.queue, m.level = 3) ∧
    (∀ m ∈ full.notices.queue, 3 ≤ m.level) ∧ (full.notify .holeSet 5 3 none).notices.lost = 1 ∧
    (full.notify .holeSet 5 3 none).notices.queue = full.notices.queue ∧
    ((full.notify .holeSet 5 4 none).notices.queue.filter fun n => n.level == 3) = [] ∧
    (full.notify .holeSet 5 4 none).notices.lost = 1 := by decide +kernel
theorem test_O48_selection :
    (selectNotices [notice 3, notice 6, { notice 3 with index := 9 }]).map Notice.index = [5, 5, 9] ∧
    (selectNotices full.notices.queue).length = 16 ∧
    (withoutSelected full.notices.queue (selectNotices full.notices.queue)).length = 48 ∧
    ∀ n ∈ full.notices.queue, 1 ≤ n.level ∧ n.level ≤ 7 := by decide +kernel
theorem test_O48_admitted :
    let t := (withNotices [notice 3] none 5).emitNotices
    t.notices.queue = [] ∧ t.notices.pacing = some 100 ∧ t.notices.counter = 1 ∧ t.notices.noticesSent = 1 := by
  decide +kernel
theorem test_O48_refused :
    let s := withNotices [notice 3] none 5
    let t := ({ s with store := { s.store with free := 512 } } : State).emitNotices
    t.notices.queue = [notice 3] ∧ t.notices.pacing = some 100 ∧ t.notices.framesRefused = 1 ∧
    ({ (setTo 51 0 s) with store := { s.store with free := 512 } } : State).emitNotices.notices.pacing = some 1 := by
  decide +kernel
theorem test_O48_no_gap :
    let t := (setTo 51 0 (withNotices (List.replicate 17 (notice 3)) none 5)).emitNotices
    t.notices.queue = [] ∧ t.notices.pacing = none ∧ t.notices.framesSent = 2 ∧ t.notices.noticesSent = 17 := by
  decide +kernel
theorem test_O48_pacing :
    let s := { withNotices [notice 3] (some 100) 5 with quayTime := 100 }
    s.emitNotices = s ∧ (ran .pacingDeadlineExpiry s).notices.pacing = some 200 ∧
    (ran .pacingDeadlineExpiry { s with quayTime := 99 }).notices.pacing = some 100 := by decide +kernel
/-- A notice frame, byte by byte from R194: HOLE_SET of entry 5 at level 3 and quay time 7, without a data word. -/
theorem test_O48_bytes :
    (noticeFrame Config.identity 5 0x102 9 2 258 [notice 3]).data =
      bytes [3, 1, 0, 9, 0, 0, 1, 2, 2, 0, 1, 2, 2, 1, 0, 5, 3, 0, 0, 0, 0, 0, 0, 7] ++ List.replicate 22 0 := by
  decide +kernel

/-! ### Commands of management -/

/-- The Arm of the worked example of chapter 9. -/
def arm (mode : Byte) : CaptureFields :=
  { a := { enable := 1, portMask := 0x1F, direction := 2, kindMask := 0x3F, dispositionMask := 0x00C0, craneState := 0
           lo := 1204, hi := 1204 }
    b := { enable := 0, portMask := 0x1F, direction := 0, kindMask := 0x3F, dispositionMask := 0x7FFF, craneState := 5
           lo := 0, hi := 4095 }
    mode := mode, filter := 1, n := 2, post := 1 }

theorem test_O50_arm :
    ¬captureFaulty (arm 1) ∧ matcherClean (arm 1).a ∧ matcherClean (arm 1).b ∧ captureFaulty (arm 4) ∧
    captureFaulty { arm 1 with n := 0 } ∧ captureFaulty (arm 7) := by
  unfold captureFaulty matcherFaulty matcherClean
  refine ⟨?_, ?_, ?_, ?_, ?_, ?_⟩ <;> decide +kernel
theorem test_O50_loads :
    result (.captureArm (arm 1)) base = some .ok ∧ (ran (.captureArm (arm 1)) base).capture.state = .armed ∧
    (ran (.captureArm (arm 6)) base).capture.state = .tracing ∧ result (.captureArm (arm 4)) base = some .badValue := by
  decide +kernel
theorem test_O50_stop_and_hits :
    let s := { base with capture := { base.capture with hitA := true } }
    (ran .captureStop s).capture.state = .off ∧ (ran .captureStop s).capture.hitA = true ∧
    (ran .captureClearHits s).capture.hitA = false ∧
    (ran .captureClearHits s).endpoint.answer.map Answer.value = some 260 := by decide +kernel
theorem test_O51_hypotheses :
    managementCode (.writeGeometry 255 0) = some 3 ∧ base.alone ∧
    result (.writeGeometry 255 0) base = some .badIndex ∧ (ran (.writeGeometry 255 0) base).paths = base.paths := by
  unfold State.alone; decide +kernel

/-- The request of the worked example of chapter 10, at some of its commands. -/
def request : Request :=
  { tag := 0x2A17, source := 9
    commands := [wire 3 (bytes [7, 0, 1, 213, 6, 11]), wire 5 (bytes [0, 128, 0]),
      wire 2 (bytes [5, 0, 0, 1, 0, 200]), wire 6 (bytes [0, 128]), wire 13 []] }
def executing (done : Nat) (stopped : Bool) : Execution :=
  { request := request, stopped := stopped
    results := List.replicate done { code := 3, result := .ok, value := 0, data := [] } }
def serving (done : Nat) (stopped : Bool) : State :=
  { base with endpoint := { base.endpoint with executing := some (executing done stopped) } }

theorem test_O52_hypotheses :
    managementCode (.writePaths 469 6 11) = some 3 ∧ (Instr.writePaths 469 6 11) ≠ .restart ∧
    (serving 0 false).endpoint.executing = some (executing 0 false) ∧
    (executing 0 false).cannotRun (resultSize (.writePaths 469 6 11)) = false ∧
    ((ran (.writePaths 469 6 11) (serving 0 false)).endpoint.executing.map fun e => e.results.length) = some 1 ∧
    (ran (.writePaths 469 6 11) (serving 0 false)).paths.staged.get 469 = ⟨some 6, some 11⟩ := by decide +kernel
theorem test_O53_no_room :
    resultSize (.readEntries 5 1 200) = 6400 ∧ (executing 2 false).cannotRun 1982 = false ∧
    (executing 2 false).cannotRun 1983 = true ∧
    ((ran (.readEntries 5 1 200) (serving 2 false)).endpoint.executing.map fun e => e.stopped) = some true ∧
    ((ran (.craneHold 128) (serving 3 true)).endpoint.executing.map fun e => e.results.map Answer.result) =
      some [.ok, .ok, .ok, .notRun] := by decide +kernel
theorem test_O53_reply :
    let t := ran .restart (serving 4 true)
    t.endpoint.executing = none ∧ t.endpoint.executed = 1 ∧
    ((t.store.port .y).tx.map fun x => x.entry.frame.data.take 16) =
      some (bytes [2, 0, 0x2A, 0x17, 5, 0, 0, 0, 3, 0, 0, 0, 0, 0, 0, 0]) ∧
    (ran .restart { serving 4 true with store := .cold }).endpoint.repliesLost = 1 := by decide +kernel
theorem test_O54_refusals :
    settingOf (.writeSettings 54 0) = some (54, 0) ∧ result (.writeSettings 54 0) base = some .badIndex ∧
    result (.writeSettings 42 1024) base = some .badValue ∧ result (.writeSettings 42 1023) base = some .ok ∧
    result (.bearerTypeWrite 0x88B5) base = some .badValue ∧ result (.bearerTypeWrite 0xFFFF) base = some .ok ∧
    result (.bearerTypeWrite 0x10000) base = some .badValue := by decide +kernel
theorem test_O54_limit :
    let s := { base with store := base.store.setQueue .q3 2 (holding [entry 1, entry 2]) }
    result (.queueLimitWrite .q3 2 1) s = some .busy ∧ result (.queueLimitWrite .q3 2 2) s = some .ok ∧
    result (.queueLimitWrite .q3 2 513) s = some .badValue ∧ result (.queueLimitWrite .q3 2 0) s = some .badValue := by
  decide +kernel
theorem test_O54_effects :
    let s := { withNotices [notice 3, notice 4] none 0 with quayTime := 1000 }
    (ran (.noticeFloorWrite 3) s).notices.queue = [notice 4] ∧
    (ran (.noticeFloorWrite 3) s).notices.suppressed.coverage = 1 ∧
    (ran (.summaryIntervalWrite 10) s).summary.timer = 11000 ∧ result (.summaryIntervalWrite 9) s = some .badValue ∧
    (ran (.noticeDestinationWrite 5) s).notices.framesSent = 1 := by decide +kernel

theorem test_O55_managers_cells_geometry :
    result (.writeManagers 4 9) base = some .badIndex ∧
    (ran (.writeManagers 3 9) base).endpoint.managers.get 3 = 9 ∧
    result (.writeCells 32 ⟨1, 0, 0⟩) base = some .badIndex ∧ result (.writeCells 31 ⟨1, 4, 0⟩) base = some .badValue ∧
    (ran (.writeCells 31 ⟨1, 3, 7⟩) base).cell 31 = ⟨true, 3, 7, true⟩ ∧
    (ran (.writeCells 31 ⟨1, 3, 7⟩) .reset).cell 31 = ⟨true, 3, 7, false⟩ ∧
    result (.writeGeometry 255 0) base = some .badIndex ∧ result (.writeGeometry 254 64) base = some .badValue ∧
    (ran (.writeGeometry 254 63) base).paths.geometry.get 254 = some 63 := by decide +kernel
/-- A GENERAL descriptor of rate 100 and burst 2 (the example of 1.6). -/
def bearerFields : BearerFields :=
  { kind := 1, cls := 2, coarse := false, demote := false, absorb := false, rate := 100, burst := 2, homeCell := 255
    segment := 255, special := 0 }
theorem test_O55_bearer_fields :
    ¬bearerFieldsFaulty bearerFields ∧ bearerFieldsClean bearerFields ∧
    bearerFieldsFaulty { bearerFields with rate := 4096 } ∧ ¬bearerFieldsFaulty { bearerFields with rate := 4095 } ∧
    bearerFieldsFaulty { bearerFields with homeCell := 32 } := by
  unfold bearerFieldsFaulty bearerFieldsClean
  refine ⟨?_, ?_, ?_, ?_, ?_⟩ <;> decide +kernel
theorem test_O55_bearers :
    let s := { withCrane crane 1000 with paths := .cold }
    ((ran (.writeBearers 9 bearerFields) s).bearer 9).level = 2048 ∧
    ((ran (.writeBearers 9 bearerFields) s).bearer 9).stamp = 1000 ∧
    result (.writeBearers 0 bearerFields) s = some .badIndex ∧
    result (.writeBearers 4096 bearerFields) s = some .badIndex ∧
    result (.writeBearers 1204 bearerFields) s = some .busy ∧
    result (.writeBearers 9 { bearerFields with kind := 2, cls := 0, special := 4 }) s = some .busy ∧
    result (.writeBearers 9 { bearerFields with kind := 4, special := 1204 }) s = some .badValue ∧
    result (.writeBearers 9 { bearerFields with burst := 0 }) s = some .badValue := by decide +kernel
theorem test_O55_misdirects :
    base.misdirects 9 (descriptor (.redirect 0)) ∧ base.misdirects 9 (descriptor (.redirect 9)) ∧
    ¬(withBearer 10 (.general none) base).misdirects 9 (descriptor (.redirect 10)) := by
  refine ⟨⟨0, rfl, Or.inl rfl⟩, ⟨9, rfl, Or.inr (Or.inl (by decide))⟩, ?_⟩
  rintro ⟨t, ht, h⟩
  cases ht
  rcases h with h | h | h
  · exact absurd h (by decide)
  · exact absurd h (by decide)
  · exact h.1 none (by decide +kernel)
theorem test_O55_engaged :
    (withCrane crane 1000).engaged (.crane 4) ∧ ¬(withCrane .cold 1000).engaged (.crane 4) := by
  refine ⟨⟨4, rfl, by decide +kernel⟩, ?_⟩
  rintro ⟨l, hl, h⟩
  cases hl
  exact h (by decide +kernel)
theorem test_O55_paths :
    result (.writePaths 1024 3 6) base = some .badIndex ∧ result (.writePaths 1023 32 6) base = some .badValue ∧
    (ran (.writePaths 1023 31 255) base).paths.staged.get 1023 = ⟨some 31, none⟩ := by decide +kernel
/-- The cold profile as carried. -/
def profileFields : ProfileFields :=
  { highMargin := 30, lowMargin := 30, hysteresis := 10, spikeStep := 20, band := 20, reportDelta := 5
    staleTime := 900, lostTime := 3600, highEdges := 3, lowEdges := 3, powerEdges := 1, alarmEdges := 1, staleEdges := 3
    highLevel := 4, lowLevel := 4, powerLevel := 3, alarmLevel := 4, staleLevel := 3 }
theorem test_O55_profile_fields :
    ¬profileFaulty profileFields ∧ profileFaulty { profileFields with hysteresis := 30 } ∧
    profileFaulty { profileFields with lostTime := 900 } ∧ ¬profileFaulty { profileFields with lostTime := 901 } := by
  unfold profileFaulty
  refine ⟨?_, ?_, ?_, ?_⟩ <;> decide +kernel
theorem test_O55_profiles :
    readProfile profileFields = some .cold ∧ result (.writeProfiles 16 profileFields) base = some .badIndex ∧
    result (.writeProfiles 15 { profileFields with highMargin := 201 }) base = some .badValue ∧
    result (.writeProfiles 15 { profileFields with highMargin := 200 }) base = some .ok := by decide +kernel
theorem test_O55_reefers :
    let f : ReeferFields := { registered := 1, mark := mark, profile := 15, segment := 63 }
    let s := withSlot record 2000000
    ((ran (.writeReefers 311 f) s).slot 311).record = .never ∧ (ran (.writeReefers 311 f) s).registry.changeList = [] ∧
    result (.writeReefers 2048 f) s = some .badIndex ∧ result (.writeReefers 0 { f with profile := 16 }) s = some .badValue ∧
    result (.writeReefers 0 { f with segment := 64 }) s = some .badValue ∧
    result (.writeReefers 0 { f with mark := bytes [97] }) s = some .badValue ∧
    result (.writeCoverage 0) s = some .badTable := by decide +kernel
theorem test_O55_mark : ¬markFaulty mark ∧ markFaulty (bytes [0x5B]) ∧ markFaulty (bytes [0x2F]) := by
  unfold markFaulty; decide +kernel

/-- A range beyond each table, and the last entry of each (R186). -/
theorem test_O56_ranges :
    ([.clearManagers 3 2, .clearCells 31 2, .clearGeometry 255 2, .clearBearers 4095 2, .clearPaths 1023 2,
      .clearProfiles 15 2, .clearReefers 2047 2, .clearCoverage 2047 2, .clearSettings 53 2,
      .clearBearers 0 2] : List Instr).all (fun c => result c base = some .badIndex) = true ∧
    ([.clearManagers 3 1, .clearCells 31 1, .clearGeometry 255 1, .clearBearers 4095 1, .clearPaths 1023 1,
      .clearProfiles 15 1, .clearReefers 2047 1, .clearCoverage 2047 1, .clearSettings 53 1] : List Instr).all
        (fun c => result c base = some .ok) = true ∧ result (.clearCells 32 0) base = some .badValue := by
  decide +kernel
theorem test_O56_clears :
    let s := withCrane crane 1000
    ((ran (.clearCells 3 1) base).cell 3).present = false ∧ ((ran (.clearCells 4 9) base).cell 3).present = true ∧
    result (.clearBearers 1200 10) s = some .busy ∧ ((ran (.clearBearers 1205 10) s).bearer 1205).level = 1024 ∧
    (ran (.clearReefers 300 12) (withSlot record 5)).registry.changeList = [] ∧
    (ran (.clearCoverage 640 4) (covered 1271 .hole)).cover 643 = .cold ∧
    (ran (.clearSettings 37 2) (setTo 37 7 base)).setting 37 = 5 := by decide +kernel
theorem test_O56_setting_refused :
    let s := { setTo 2 512 base with store := base.store.setQueue .q0 0 (holding (List.replicate 129 (entry 1))) }
    settingCode s 1 (Settings.coldValue s.identity 1) = .ok ∧
    settingCode s 2 (Settings.coldValue s.identity 2) = .busy ∧ result (.clearSettings 1 2) s = some .busy := by
  decide +kernel
theorem test_O57_identify :
    ((ran .identify base).endpoint.answer.map fun a => (a.data.length, a.data.take 2)) =
      some (20, bytes [0x54, 0x50]) := by decide +kernel
theorem test_O57_hypotheses : (withCrane crane 1100).alone ∧ (withCrane crane 1100).canonical := by
  unfold State.alone State.canonical; decide +kernel
theorem test_O57_reads :
    result (.readEntries 0 0 1) base = some .badTable ∧ result (.readEntries 11 0 1) base = some .badTable ∧
    result (.readEntries 3 0 0) base = some .badValue ∧ result (.readEntries 3 31 2) base = some .badIndex ∧
    (ran (.readEntries 3 3 1) base).endpoint.answer.map Answer.data = some (bytes [1, 0, 0, 0, 1, 0]) ∧
    ((ran (.readEntries 6 15 1) base).endpoint.answer.map fun a => a.data.length) = some 192 := by decide +kernel
theorem test_O57_statistics :
    result (.statisticsRead 0 0 0) base = some .badValue ∧ result (.statisticsRead 11 0 0) base = some .badValue ∧
    result (.statisticsRead 3 0 0) base = some .badValue ∧ result (.statisticsRead 4 15 2) base = some .badIndex ∧
    result (.statisticsRead 10 0 0) base = some .ok ∧ result (.statisticsRead 4 15 1) base = some .ok := by decide +kernel
theorem test_O57_capture_read :
    result (.captureRead 256 1) base = some .badIndex ∧ result (.captureRead 255 33) base = some .badValue ∧
    ((ran (.captureRead 255 32) base).endpoint.answer.map fun a => a.data.length) = some 524 := by decide +kernel
theorem test_O57_decoded_without_owner :
    (∀ w ∈ [wire 3 (bytes [11, 0, 0, 0, 1]), wire 3 (bytes [0, 0, 0, 0, 1]), wire 4 (bytes [11, 0, 0, 0, 0, 1]),
      wire 3 (bytes [2, 0, 0, 0, 1]), wire 3 (bytes [10, 0, 0])], decodeCommand w = .badCommand w) ∧
    decodeCommand (wire 3 (bytes [10, 0, 0, 7])) = .writeCoverage 7 := by decide
theorem test_O57_no_owner :
    result (.badCommand (wire 14 [])) base = some .badCommand ∧
    result (.badCommand (wire 6 (bytes [1]))) base = some .badValue ∧
    result (.badCommand ⟨1, 3, []⟩) base = some .badValue ∧
    result (.badCommand (wire 4 (bytes [11, 0, 0, 0, 0, 1]))) base = some .badTable ∧
    result (.badCommand (wire 3 (bytes [2, 0, 0, 0, 1]))) base = some .badValue := by decide +kernel
theorem test_O58_statistics_clear :
    let s := { withSlot { record with duplicates := 7 } 5 with endpoint := { Endpoint.cold with executed := 4 } }
    ((ran .statisticsClear s).slot 311).record = record ∧ (ran .statisticsClear s).endpoint.executed = 0 ∧
    (ran .statisticsClear { s with store := { s.store with free := 9, least := 3 } }).store.least = 9 := by decide +kernel
theorem test_O59_restart_alone :
    let t := ran .restart (withCrane crane 1100)
    (t.link 4).state = .arming ∧ (t.link 4).segment = none ∧ t.capture.state = .off ∧ t.summary.timer = 61100 := by
  decide +kernel
theorem test_O59_restart_held :
    let k := { heldCrane with state := .releasing, releaseExpiry := some 3290 }
    let t := ran .restart (withCrane k 1300)
    (t.link 4).state = .hold ∧ (t.link 4).nextHold = some 1350 ∧ (t.link 4).holdCounter = 2 ∧
    (t.link 4).upAlive = false := by decide +kernel
theorem test_O59_restart_in_request :
    let e := { executing 1 false with request := { request with commands := [wire 8 [], wire 13 [], wire 8 []] } }
    let s := { base with endpoint := { base.endpoint with executing := some e } }
    e.cannotRun 0 = false ∧ (ran .restart s).endpoint.executing = none ∧ (ran .restart s).endpoint.executed = 1 ∧
    ((ran .restart s).store.queue .y 1).entries.length +
      ((ran .restart s).store.port .y).tx.toList.length = 1 := by decide +kernel
/-- A restart in a request cuts off and flushes the yard port's traffic, but for the reply, which is then selected. -/
theorem test_O59_restart_spares :
    let busy := { base.store.port .y with
      tx := some { entry := entry 7, cls := 3, left := 9 }, turn := 2, credit := 3 }
    let st := (base.store.setPort .y busy).setQueue .y 1 (holding [entry 1, entry 2])
    let s := { serving 4 false with store := { st with free := 16381, least := 77 } }
    let t := ran .restart s
    (t.store.port .y).tx.map (fun x => (x.entry.origin, x.cls, x.entry.frame.etherType)) = some (.reply, 1, 0x88B5) ∧
    (t.store.port .y).turn = 1 ∧ (t.store.port .y).credit = 7 ∧ (t.store.queue .y 1).entries = [] ∧
    (t.store.queue .y 1).flushed = 2 ∧ (t.store.queue .y 3).flushed = 1 ∧ t.store.free = 16383 ∧
    t.store.least = 16383 := by decide +kernel
theorem test_O59_restart_deferred :
    let k := { heldCrane with segment := none, resolved := [] }
    ((ran .restart (withCrane k 1300)).link 4).counts.holdsDeferred = 1 ∧
    ((ran .restart (withCrane k 1300)).link 4).holdCounter = 1 := by decide +kernel
theorem test_O60_hypotheses :
    readCell (decodeCell (bytes [1, 3, 0, 7])) = some (true, 3, 7) ∧
    bearerFieldsClean (decodeBearer (bytes [2, 0, 0, 100, 2, 255, 255, 0, 4, 0])) ∧
    (readBearer (decodeBearer (bytes [2, 0, 0, 100, 2, 255, 255, 0, 4, 0]))).isSome = true ∧
    (readProfile (decodeProfile (bytes [30, 30, 10, 20, 20, 5, 3, 132, 0, 0, 14, 16, 3, 3, 1, 1, 3, 4, 4, 3, 4, 3, 9,
      9]))).isSome = true ∧
    (readReefer (decodeReefer ([1] ++ mark ++ bytes [15, 63]))).isSome = true ∧ putCell (some 31) = [31] := by
  refine ⟨?_, ?_, ?_, ?_, ?_, ?_⟩
  · decide +kernel
  · unfold bearerFieldsClean; decide +kernel
  all_goals decide +kernel
theorem test_O60_absent :
    let b := bytes [0, 10, 0, 100, 2, 7, 255, 0, 0, 0]
    b.length = 10 ∧ byteAt b 0 = 0 ∧ bearerFieldsClean (decodeBearer b) ∧
    readBearer (decodeBearer b) = some .cold := by
  refine ⟨?_, ?_, ?_, ?_⟩
  · decide
  · decide
  · unfold bearerFieldsClean; decide +kernel
  · decide +kernel
/-- Fields of entries, byte by byte from R198: descriptor 1204 of link 4, and the state part of that link. -/
theorem test_O60_bytes :
    entryData (withCrane crane 1100) 5 1204 = bytes [2, 0, 0, 0, 1, 255, 255, 0, 4, 0, 0, 0, 0, 0, 4, 0] ++ zeros 16 ∧
    bytesAt (entryData (withCrane crane 1100) 6 4) 86 24 =
      bytes [3, 0, 0, 0, 17, 1, 0, 0x3F, 0, 0, 4, 0x5B, 0, 0, 4, 0x62, 0, 11, 0, 201, 0, 201, 0, 0] ∧
    bytesAt (entryData (withCrane crane 1100) 6 4) 122 11 =
      bytes [1, 3, 255, 0, 255, 255, 1, 3, 255, 255, 255] := by decide +kernel
theorem test_O60_crane :
    let b := bytes ([1, 3, 4, 180, 0, 50, 0, 10, 3, 8, 0, 0, 7, 208, 0, 160, 0, 176, 3, 6, 4, 3] ++ List.replicate 64 0)
    b.length = 86 ∧ readCrane (decodeCrane b) = some craneConfig ∧
    (entryData (withCrane crane 1100) 6 4).take 86 = b := by decide +kernel

end Sys2Proof.Tests
end

/-! PROOFS. Chapter 1, the arrival of a bearer frame up to its tests (R1, R3, R4): the tests of the model are the cases
of the manual, and a frame that meets one of them is counted as malformed and presented, and no more. -/

namespace Sys2Proof.Machine

/-! ### The counters of a port (R17) -/

@[simp] theorem State.arrivals_setArrivals_same (s : State) (p : Port) (c : ArrivalCounts) :
    (s.setArrivals p c).arrivals p = c := by simp [State.arrivals]

@[simp] theorem State.setArrivals_setArrivals (s : State) (p : Port) (c d : ArrivalCounts) :
    (s.setArrivals p c).setArrivals p d = s.setArrivals p d := by simp [State.setArrivals]

/-- What a malformed frame counts, from its receipt on: one frame received and one malformed (R1, R3). -/
theorem countMalformed_countReceived (p : Port) (s : State) :
    countMalformed p (countReceived p s) = s.setArrivals p { s.arrivals p with
      framesReceived := (s.arrivals p).framesReceived + 1, malformed := bump16 (s.arrivals p).malformed } := by
  simp [countMalformed, countReceived]

/-! ### The arrival of a frame (R1, R24) -/

theorem exec_frameArrival (p : Port) (f : Frame) (right : Bool) (s : State) :
    exec (.frameArrival p f right) s = execFrameArrival p f right s :=
  rfl

theorem classify_of_bearerType {f : Frame} {s : State} (p : Port) (h : f.etherType = s.bearerType) :
    classify p f s = takeBearerFrame p f (countReceived p s) :=
  if_pos h

/-- A bearer frame on a port with link is counted and goes to the tests of R3. -/
theorem exec_frameArrival_of_takesBearer {s : State} {p : Port} {f : Frame} (h : s.takesBearer p f) :
    exec (.frameArrival p f true) s = .next (takeBearerFrame p f (countReceived p s)) := by
  obtain ⟨hup, htype⟩ := h
  rw [exec_frameArrival, execFrameArrival, if_pos hup, if_pos rfl, classify_of_bearerType p htype]

/-! ### The tests of R3 and R4 -/

/-- The model's header tests are the cases of R3. -/
theorem failsHeaderTests_iff (p : Port) (f : Frame) : failsHeaderTests p f = true ↔ headerFaulty p f := by
  unfold failsHeaderTests headerFaulty frameSize
  cases hdir : (readHeader f.data).direction with
  | none => simp [hdir]
  | some dir => cases dir <;> simp [hdir, or_assoc]

theorem neighbourCount_eq (data : List Byte) (h : Header) :
    neighbourCount data h = (byteAt data (11 + h.payloadLength)).toNat := by
  rw [neighbourCount, show 10 + h.payloadLength + 1 = 11 + h.payloadLength by omega]

theorem requiredLength_eq_neededLength (f : Frame) : requiredLength f.data (readHeader f.data) = neededLength f := by
  rw [requiredLength, neighbourCount_eq, neededLength]

/-- The model's length check is the cases of R4. -/
theorem failsLengthTest_iff (f : Frame) : failsLengthTest f = true ↔ lengthFaulty f := by
  have hcount : 10 + (readHeader f.data).payloadLength + 2 = 12 + (readHeader f.data).payloadLength := by omega
  simp [failsLengthTest, lengthFaulty, requiredLength_eq_neededLength, neighbourCount_eq, hcount, or_assoc,
    -not_and, not_and_or]

/-! ### What a frame that fails them comes to -/

/-- A frame too short for a bearer header is presented with its size alone, any other with what its header says
(R166). -/
theorem dropVerdict_headerSeen (p : Port) (f : Frame) (d : Disposition) :
    dropVerdict p f (headerSeen f) .none none d =
      if f.data.length < 10 then plainVerdict p f d else bearerVerdict p f .none none d := by
  by_cases h : f.data.length < 10
  · rw [headerSeen, if_pos h, if_pos h]; rfl
  · rw [headerSeen, if_neg h, if_neg h]; rfl

theorem takeBearerFrame_of_faulty {p : Port} {f : Frame} (h : headerFaulty p f ∨ lengthFaulty f) (s : State) :
    takeBearerFrame p f s = dropMalformed p f (headerSeen f) .none s := by
  rw [← failsHeaderTests_iff, ← failsLengthTest_iff, ← Bool.or_eq_true] at h
  rw [takeBearerFrame, if_pos h]

end Sys2Proof.Machine

section
open Sys2Proof Sys2Proof.Machine

/-- Settles O16: the frame is counted as received, the tests of R3 and R4 send it to the drop, and the two counts and
the presentation there are those of the statement. -/
theorem malformedBearerFrames : Obligations.MalformedBearerFrames := by
  intro s p f htakes hfaulty
  rw [exec_frameArrival_of_takesBearer htakes, takeBearerFrame_of_faulty hfaulty, dropMalformed,
    dropVerdict_headerSeen, countMalformed_countReceived]

end

/-! PROOFS. Chapter 5, the step of an estimate toward a sample (R99, R100): the model's step is a signed division by 256
that rounds a half away from zero, and with a weight below 256 it does not pass the sample. -/

namespace Sys2Proof.Machine

/-- A signed number divided by 256 and rounded to the nearest whole number, a half away from zero (R99): the rounding
of its magnitude, given its sign. -/
def div256Away (p : Int) : Int := p.sign * ((p.natAbs + 128) / 256 : Nat)

/-! ### The rounding of R99 -/

theorem div256Away_of_nonneg {p : Int} (h : 0 ≤ p) : div256Away p = (p + 128) / 256 := by
  rcases h.eq_or_lt with rfl | hpos
  · rfl
  · rw [div256Away, Int.sign_eq_one_of_pos hpos]
    omega

/-- The rounding treats both signs alike, so that each fact about it is proved on one sign alone. -/
theorem div256Away_neg (p : Int) : div256Away (-p) = -div256Away p := by
  rw [div256Away, div256Away, Int.sign_neg, Int.natAbs_neg, neg_mul]

theorem div256Away_of_neg {p : Int} (h : p < 0) : div256Away p = -((-p + 128) / 256) := by
  rw [← div256Away_of_nonneg (by omega), div256Away_neg, neg_neg]

theorem div256Away_nearest (p : Int) : (2 * (256 * div256Away p - p)).natAbs ≤ 256 := by
  rcases lt_or_ge p 0 with hneg | hpos
  · rw [div256Away_of_neg hneg]
    omega
  · rw [div256Away_of_nonneg hpos]
    omega

theorem natAbs_lt_of_div256Away_tie {p : Int} (htie : (2 * (256 * div256Away p - p)).natAbs = 256) :
    p.natAbs < (256 * div256Away p).natAbs := by
  rcases lt_or_ge p 0 with hneg | hpos
  · rw [div256Away_of_neg hneg] at htie ⊢
    omega
  · rw [div256Away_of_nonneg hpos] at htie ⊢
    omega

/-! ### The step stays within the distance (R100) -/

/-- Toward a sample that lies above, the step is no larger than the distance `d`: the product is at most `255 * d`, so
with the 128 of the rounding it stays below `256 * (d + 1)`. -/
theorem div256Away_mul_within {d : Int} {k : Nat} (hd : 0 ≤ d) (hk : k ≤ 255) :
    0 ≤ div256Away (d * k) ∧ div256Away (d * k) ≤ d := by
  have hlow : 0 ≤ d * k := mul_nonneg hd (Int.natCast_nonneg k)
  have hhigh : d * k ≤ d * 255 := mul_le_mul_of_nonneg_left (by omega) hd
  rw [div256Away_of_nonneg hlow]
  omega

/-- The step goes toward the sample and not past it, whichever way the sample lies. -/
theorem div256Away_mul_between (d : Int) {k : Nat} (hk : k ≤ 255) :
    min 0 d ≤ div256Away (d * k) ∧ div256Away (d * k) ≤ max 0 d := by
  rcases le_total 0 d with hup | hdown
  · have hstep := div256Away_mul_within hup hk
    omega
  · have hstep := div256Away_mul_within (neg_nonneg.2 hdown) hk
    rw [neg_mul, div256Away_neg] at hstep
    omega

/-! ### The model's step and the estimate it gives -/

theorem coverStep_eq_div256Away (e q k : Nat) : coverStep e q k = div256Away ((16 * (q : Int) - e) * k) := by
  simp only [coverStep, Nat.cast_mul, Nat.cast_ofNat]
  split
  next hneg =>
    rw [div256Away, Int.sign_eq_neg_one_of_neg hneg, neg_one_mul]
  next hpos =>
    rw [div256Away_of_nonneg (not_lt.1 hpos)]
    omega

theorem coverStep_between (e q : Nat) {k : Nat} (hk : k ≤ 255) :
    min (e : Int) (16 * q) ≤ e + coverStep e q k ∧ e + coverStep e q k ≤ max (e : Int) (16 * q) := by
  have hstep := div256Away_mul_between (16 * (q : Int) - e) hk
  rw [← coverStep_eq_div256Away] at hstep
  omega

/-- The limit of R100 leaves the moved estimate as it is. -/
theorem movedEstimate_eq_add_coverStep {e q k : Nat} (he : e ≤ 4080) (hq : q ≤ 255) (hk : k ≤ 255) :
    (movedEstimate e q k : Int) = e + coverStep e q k := by
  have hbetween := coverStep_between e q hk
  rw [movedEstimate]
  omega

theorem movedEstimate_between {e q k : Nat} (he : e ≤ 4080) (hq : q ≤ 255) (hk : k ≤ 255) :
    min e (16 * q) ≤ movedEstimate e q k ∧ movedEstimate e q k ≤ max e (16 * q) := by
  have hbetween := coverStep_between e q hk
  rw [← movedEstimate_eq_add_coverStep he hq hk] at hbetween
  exact_mod_cast hbetween

end Sys2Proof.Machine

section
open Sys2Proof Sys2Proof.Machine

/-- Settles O38: the step is the rounding of the product, and since it stays within the distance, the limit of R100
leaves the new estimate as it is, between the old one and the sample. -/
theorem coverageStep : Obligations.CoverageStep := by
  intro e q k he hq hk product
  have hstep : coverStep e q k = div256Away product := coverStep_eq_div256Away e q k
  refine ⟨?_, ?_, ?_, ?_, movedEstimate_eq_add_coverStep he hq hk, movedEstimate_between he hq hk⟩ <;> rw [hstep]
  · exact div256Away_of_nonneg
  · exact div256Away_of_neg
  · exact div256Away_nearest product
  · exact natAbs_lt_of_div256Away_tie

end

/-! PROOFS. Chapter 6, the spike filter of a slot (R122): one equation for each case of the rule. A reading near the
confirmed supply ends the run of candidates, and a reading far from it is weighed against the candidate of the run. -/

namespace Sys2Proof.Machine

theorem near_iff {a b : Int} {step : Nat} : near a b step = true ↔ (a - b).natAbs ≤ step :=
  decide_eq_true_iff

theorem not_near_iff {a b : Int} {step : Nat} : ¬near a b step = true ↔ step < (a - b).natAbs :=
  near_iff.not.trans not_le

section SpikeFilter
variable {step count : Nat} {r c k : Int} {candidate : Option Int}

/-! ### Without a reading, and the first reading -/

theorem spikeFilter_no_reading (step : Nat) (confirmed candidate : Option Int) (count : Nat) :
    spikeFilter step none confirmed candidate count = (confirmed, candidate, count) :=
  rfl

theorem spikeFilter_first_reading (step : Nat) (r : Int) (candidate : Option Int) (count : Nat) :
    spikeFilter step (some r) none candidate count = (some r, candidate, 0) :=
  rfl

/-! ### A reading against the confirmed supply -/

theorem spikeFilter_of_near_confirmed (h : (r - c).natAbs ≤ step) :
    spikeFilter step (some r) (some c) candidate count = (some r, candidate, 0) :=
  if_pos (near_iff.2 h)

theorem spikeFilter_of_far_no_run (h : step < (r - c).natAbs) :
    spikeFilter step (some r) (some c) candidate 0 = (some c, some r, 1) :=
  if_neg (not_near_iff.2 h)

/-! ### A reading that jumped, against the candidate of a run -/

/-- The confirmed supply decides no more: what is left of the filter looks at the candidate and the count alone. -/
theorem spikeFilter_of_far_run (h : step < (r - c).natAbs) (hrun : count ≠ 0) :
    spikeFilter step (some r) (some c) (some k) count =
      if near r k step then (if count + 1 < 3 then (some c, some k, count + 1) else (some r, some k, 0))
      else (some c, some r, 1) :=
  (if_neg (not_near_iff.2 h)).trans (if_neg hrun)

theorem spikeFilter_joins_run (h : step < (r - c).natAbs) (hrun : count ≠ 0) (hnear : (r - k).natAbs ≤ step)
    (hshort : count + 1 < 3) :
    spikeFilter step (some r) (some c) (some k) count = (some c, some k, count + 1) := by
  rw [spikeFilter_of_far_run h hrun, if_pos (near_iff.2 hnear), if_pos hshort]

theorem spikeFilter_third_of_run (h : step < (r - c).natAbs) (hrun : count ≠ 0) (hnear : (r - k).natAbs ≤ step)
    (hthird : 3 ≤ count + 1) :
    spikeFilter step (some r) (some c) (some k) count = (some r, some k, 0) := by
  rw [spikeFilter_of_far_run h hrun, if_pos (near_iff.2 hnear), if_neg (not_lt.2 hthird)]

theorem spikeFilter_new_run (h : step < (r - c).natAbs) (hrun : count ≠ 0) (hfar : step < (r - k).natAbs) :
    spikeFilter step (some r) (some c) (some k) count = (some c, some r, 1) := by
  rw [spikeFilter_of_far_run h hrun, if_neg (not_near_iff.2 hfar)]

end SpikeFilter

end Sys2Proof.Machine

section
open Sys2Proof Sys2Proof.Machine

/-- Settles O43, case by case of R122. The premise that a run holds a candidate is not used: the statement names the
candidate in each clause about a run. -/
theorem spikeFilterConfirms : Obligations.SpikeFilterConfirms := by
  intro step confirmed candidate count _ apart
  refine ⟨spikeFilter_no_reading step confirmed candidate count, fun r => ⟨?first, ?later⟩⟩
  case first =>
    rintro rfl
    exact spikeFilter_first_reading step r candidate count
  case later =>
    rintro c rfl
    refine ⟨spikeFilter_of_near_confirmed, fun hjump => ⟨?noRun, ?run⟩⟩
    case noRun =>
      rintro rfl
      exact spikeFilter_of_far_no_run hjump
    case run =>
      rintro k hrun rfl
      exact ⟨spikeFilter_joins_run hjump hrun, spikeFilter_third_of_run hjump hrun, spikeFilter_new_run hjump hrun⟩

end

/-! PROOFS. The Frame Store (chapter 2): what its operations make of the blocks it holds, its queues and its ports. Each
operation is one `StoreKeeps`: the pool stays whole, the tables canonical, no queue grows past its limit, and a new
entry is one that may wait where it waits. -/

namespace Sys2Proof.Machine

/-! ### The blocks held (R31) -/

/-- The blocks of the frame in transmission on a port. -/
def PortState.txBlocks (v : PortState) : Nat := v.tx.elim 0 fun t => t.entry.blocks

theorem FrameStore.portBlocks_eq (st : FrameStore) (p : Port) :
    st.portBlocks p = (allClasses.map fun c => blocksHeld (st.queue p c).entries).sum + (st.port p).txBlocks := by
  unfold FrameStore.portBlocks PortState.txBlocks
  cases (st.port p).tx <;> rfl

theorem FrameStore.held_setQueue (st : FrameStore) (p : Port) (c : Class) (q : Queue) :
    (st.setQueue p c q).held + blocksHeld (st.queue p c).entries = st.held + blocksHeld q.entries := by
  have hc : c = 0 ∨ c = 1 ∨ c = 2 ∨ c = 3 := by revert c; decide
  simp only [FrameStore.held, FrameStore.portBlocks_eq, allPorts, allClasses, List.map_cons, List.map_nil,
    List.sum_cons, List.sum_nil, FrameStore.queue_setQueue, FrameStore.port_setQueue]
  cases p <;> rcases hc with rfl | rfl | rfl | rfl <;> simp <;> omega

theorem FrameStore.held_setPort (st : FrameStore) (p : Port) (v : PortState) :
    (st.setPort p v).held + (st.port p).txBlocks = st.held + v.txBlocks := by
  simp only [FrameStore.held, FrameStore.portBlocks_eq, allPorts, List.map_cons, List.map_nil, List.sum_cons,
    List.sum_nil, FrameStore.port_setPort, FrameStore.queue_setPort]
  cases p <;> simp <;> omega

@[simp] theorem FrameStore.held_giveBack (st : FrameStore) (n : Nat) : (st.giveBack n).held = st.held := rfl

@[simp] theorem FrameStore.held_take (st : FrameStore) (n : Nat) : (st.take n).held = st.held := rfl

@[simp] theorem blocksHeld_nil : blocksHeld [] = 0 := rfl

@[simp] theorem blocksHeld_cons (e : QueueEntry) (l : List QueueEntry) :
    blocksHeld (e :: l) = e.blocks + blocksHeld l := by simp [blocksHeld]

@[simp] theorem blocksHeld_append (l m : List QueueEntry) : blocksHeld (l ++ m) = blocksHeld l + blocksHeld m := by
  simp [blocksHeld]

/-- The entries that meet a test and those that do not hold together what the list holds. -/
theorem blocksHeld_filter_add (l : List QueueEntry) (drop : QueueEntry → Bool) :
    blocksHeld (l.filter fun e => !drop e) + blocksHeld (l.filter drop) = blocksHeld l := by
  induction l with
  | nil => rfl
  | cons e l ih => cases h : drop e <;> simp [h] <;> omega

/-! ### What an operation keeps -/

/-- What an operation of the Frame Store keeps, the link states aside; `may` says which frames may newly wait in a
queue. -/
structure StoreKeeps (may : Port → Class → Origin → Prop) (settings : Table Nat) (st st' : FrameStore) : Prop where
  whole : st'.free + st'.held = st.free + st.held
  wf : st.ports.wf = true ∧ st.queues.wf = true → st'.ports.wf = true ∧ st'.queues.wf = true
  length : ∀ p c, (st'.queue p c).entries.length ≤ (st.queue p c).entries.length ∨
    (st'.queue p c).entries.length ≤ settings.get (limitIndex p c)
  entries : ∀ p c, ∀ e ∈ (st'.queue p c).entries, (∃ f ∈ (st.queue p c).entries, f.origin = e.origin) ∨ may p c e.origin

section StoreKeeps
variable {may : Port → Class → Origin → Prop} {settings : Table Nat} {st st' st'' : FrameStore}

theorem StoreKeeps.refl (may : Port → Class → Origin → Prop) (settings : Table Nat) (st : FrameStore) :
    StoreKeeps may settings st st :=
  ⟨rfl, id, fun _ _ => .inl (Nat.le_refl _), fun _ _ e he => .inl ⟨e, he, rfl⟩⟩

theorem StoreKeeps.trans (h : StoreKeeps may settings st st') (k : StoreKeeps may settings st' st'') :
    StoreKeeps may settings st st'' where
  whole := k.whole.trans h.whole
  wf := k.wf ∘ h.wf
  length p c := by
    have h1 := h.length p c
    have h2 := k.length p c
    omega
  entries p c e he := by
    rcases k.entries p c e he with ⟨f, hf, ho⟩ | hm
    · rcases h.entries p c f hf with ⟨g, hg, hgo⟩ | hm
      · exact .inl ⟨g, hg, hgo.trans ho⟩
      · exact .inr (ho ▸ hm)
    · exact .inr hm

/-- A port replaced, with the same blocks in transmission. -/
theorem StoreKeeps.setPort {p : Port} {v : PortState} (h : v.txBlocks = (st.port p).txBlocks) :
    StoreKeeps may settings st (st.setPort p v) where
  whole := by
    have := st.held_setPort p v
    simp only [FrameStore.setPort_free]
    omega
  wf := fun ⟨hp, hq⟩ => ⟨Table.wf_set _ _ _ hp, hq⟩
  length _ _ := .inl (Nat.le_refl _)
  entries _ _ e he := .inl ⟨e, he, rfl⟩

/-- A queue's counters replaced, its entries kept. -/
theorem StoreKeeps.setQueue {p : Port} {c : Class} {q : Queue} (h : q.entries = (st.queue p c).entries) :
    StoreKeeps may settings st (st.setQueue p c q) where
  whole := by
    have := st.held_setQueue p c q
    rw [h] at this
    simp only [FrameStore.setQueue_free]
    omega
  wf := fun ⟨hp, hq⟩ => ⟨hp, Table.wf_set _ _ _ hq⟩
  length p' c' := by
    rw [FrameStore.queue_setQueue]
    split
    next e => obtain ⟨rfl, rfl⟩ := e; exact .inl (by rw [h])
    next => exact .inl (Nat.le_refl _)
  entries p' c' e he := by
    rw [FrameStore.queue_setQueue] at he
    split at he
    next e' => obtain ⟨rfl, rfl⟩ := e'; exact .inl ⟨e, h ▸ he, rfl⟩
    next => exact .inl ⟨e, he, rfl⟩

/-- A selection (R40) moves the head of a queue into transmission. -/
theorem StoreKeeps.select (may : Port → Class → Origin → Prop) (settings weights : Table Nat) (st : FrameStore)
    (p : Port) : StoreKeeps may settings st (st.select weights p) := by
  rcases st.select_cases weights p with h | ⟨c, e, rest, turn, credit, -, htx, hentries, -, h⟩
  · rw [h]; exact .refl _ _ _
  · rw [h]
    refine ⟨?_, fun ⟨hp, hq⟩ => ⟨Table.wf_set _ _ _ hp, Table.wf_set _ _ _ hq⟩, fun p' c' => .inl ?_,
      fun p' c' f hf => .inl ⟨f, ?_, rfl⟩⟩
    · have h1 := st.held_setQueue p c { st.queue p c with entries := rest }
      have h2 := (st.setQueue p c { st.queue p c with entries := rest }).held_setPort p
        { st.port p with tx := some { entry := e, cls := c, left := frameSize e.frame + 20 }
                         turn := turn, credit := credit }
      simp only [hentries, blocksHeld_cons, FrameStore.port_setQueue, PortState.txBlocks, htx, Option.elim_none,
        Option.elim_some] at h1 h2
      simp only [FrameStore.setPort_free, FrameStore.setQueue_free]
      omega
    · rw [FrameStore.queue_setPort, FrameStore.queue_setQueue]
      split
      next e' => obtain ⟨rfl, rfl⟩ := e'; simp [hentries]
      next => exact Nat.le_refl _
    · rw [FrameStore.queue_setPort, FrameStore.queue_setQueue] at hf
      split at hf
      next e' => obtain ⟨rfl, rfl⟩ := e'; rw [hentries]; exact List.mem_cons_of_mem _ hf
      next => exact hf

/-- An admitted offer takes its blocks and joins its queue (R35). -/
theorem StoreKeeps.enqueue {p : Port} {c : Class} {e : QueueEntry} (hm : may p c e.origin)
    (h : st.judge settings p c e.blocks = .admitted) :
    StoreKeeps may settings st ((st.take e.blocks).setQueue p c
      { (st.queue p c).counted .admitted with entries := ((st.queue p c).counted .admitted).entries ++ [e] }) := by
  obtain ⟨-, hlimit, hroom⟩ := FrameStore.judge_admitted h
  refine ⟨?_, fun ⟨hp, hq⟩ => ⟨hp, Table.wf_set _ _ _ hq⟩, fun p' c' => ?_, fun p' c' f hf => ?_⟩
  · have := (st.take e.blocks).held_setQueue p c
      { (st.queue p c).counted .admitted with entries := ((st.queue p c).counted .admitted).entries ++ [e] }
    simp only [FrameStore.queue_take, Queue.counted_entries, blocksHeld_append, blocksHeld_cons, blocksHeld_nil,
      FrameStore.held_take] at this
    simp only [FrameStore.setQueue_free, FrameStore.take_free, Queue.counted_entries]
    omega
  · rw [FrameStore.queue_setQueue]
    split
    next e' => obtain ⟨rfl, rfl⟩ := e'; right; simp; omega
    next => exact .inl (Nat.le_refl _)
  · rw [FrameStore.queue_setQueue] at hf
    split at hf
    next e' =>
      obtain ⟨rfl, rfl⟩ := e'
      simp only [Queue.counted_entries, List.mem_append, List.mem_singleton] at hf
      rcases hf with hf | rfl
      · exact .inl ⟨f, hf, rfl⟩
      · exact .inr hm
    next => exact .inl ⟨f, hf, rfl⟩

theorem StoreKeeps.offer {p : Port} {c : Class} {e : QueueEntry} (hm : may p c e.origin) :
    StoreKeeps may settings st (st.offer settings p c e).2 := by
  rcases st.offer_cases settings p c e with ⟨cause, -, h⟩ | ⟨hj, h⟩ <;> rw [h]
  · exact .setQueue (Queue.counted_entries _ _)
  · exact (StoreKeeps.enqueue hm hj).trans (.select ..)

/-- The entries of a queue that meet a test leave it, and their blocks return (R25, R45, R59). -/
theorem StoreKeeps.dropEntries (may : Port → Class → Origin → Prop) (settings : Table Nat) (st : FrameStore) (p : Port)
    (c : Class) (drop : QueueEntry → Bool) : StoreKeeps may settings st (st.dropEntries p c drop) where
  whole := by
    have h1 := st.held_setQueue p c ((st.queue p c).without drop)
    have h2 := blocksHeld_filter_add (st.queue p c).entries drop
    simp only [FrameStore.dropEntries, FrameStore.giveBack_free, FrameStore.setQueue_free, FrameStore.held_giveBack]
    simp only [Queue.without] at h1 ⊢
    omega
  wf := fun ⟨hp, hq⟩ => ⟨hp, Table.wf_set _ _ _ hq⟩
  length p' c' := by
    rw [FrameStore.queue_dropEntries]
    split
    next e => obtain ⟨rfl, rfl⟩ := e; exact .inl (List.length_filter_le ..)
    next => exact .inl (Nat.le_refl _)
  entries p' c' e he := by
    rw [FrameStore.queue_dropEntries] at he
    split at he
    next e' => obtain ⟨rfl, rfl⟩ := e'; exact .inl ⟨e, (List.mem_filter.1 he).1, rfl⟩
    next => exact .inl ⟨e, he, rfl⟩

theorem StoreKeeps.foldl {β : Type} (f : FrameStore → β → FrameStore)
    (h : ∀ st b, StoreKeeps may settings st (f st b)) (l : List β) (st : FrameStore) :
    StoreKeeps may settings st (l.foldl f st) := by
  induction l generalizing st with
  | nil => exact .refl _ _ _
  | cons b l ih => exact (h st b).trans (ih _)

theorem StoreKeeps.dropAt (may : Port → Class → Origin → Prop) (settings : Table Nat) (st : FrameStore) (p : Port)
    (drop : QueueEntry → Bool) : StoreKeeps may settings st (st.dropAt p drop) :=
  .foldl _ (fun st c => .dropEntries may settings st p c drop) allClasses st

theorem StoreKeeps.withdraw (may : Port → Class → Origin → Prop) (settings : Table Nat) (st : FrameStore)
    (b : BitVec 12) : StoreKeeps may settings st (st.withdraw b) :=
  .foldl _ (fun st p => .dropAt may settings st p (isFrameOf b)) quayPorts st

/-- A transmission leaves its port, and its blocks return. -/
theorem StoreKeeps.endTx {p : Port} {t : Transmission} {v : PortState} (h : (st.port p).tx = some t)
    (hv : v.tx = none) : StoreKeeps may settings st ((st.setPort p v).giveBack t.entry.blocks) where
  whole := by
    have := st.held_setPort p v
    simp only [PortState.txBlocks, h, hv, Option.elim_some, Option.elim_none] at this
    simp only [FrameStore.giveBack_free, FrameStore.setPort_free, FrameStore.held_giveBack]
    omega
  wf := fun ⟨hp, hq⟩ => ⟨Table.wf_set _ _ _ hp, hq⟩
  length _ _ := .inl (Nat.le_refl _)
  entries _ _ e he := .inl ⟨e, he, rfl⟩

theorem StoreKeeps.cutOff (may : Port → Class → Origin → Prop) (settings : Table Nat) (st : FrameStore) (p : Port) :
    StoreKeeps may settings st (st.cutOff p) := by
  unfold FrameStore.cutOff
  split
  · exact .refl _ _ _
  · next t ht =>
    have h1 : StoreKeeps may settings st ((st.setPort p { st.port p with tx := none }).giveBack t.entry.blocks) :=
      .endTx ht rfl
    have h2 : StoreKeeps may settings _ _ := h1.trans
      (.setQueue (p := p) (c := t.cls) (q := { st.queue p t.cls with flushed := (st.queue p t.cls).flushed + 1 }) rfl)
    exact h2

theorem StoreKeeps.resetTurn (may : Port → Class → Origin → Prop) (settings : Table Nat) (st : FrameStore) (p : Port) :
    StoreKeeps may settings st (st.resetTurn p) := .setPort rfl

theorem StoreKeeps.complete (may : Port → Class → Origin → Prop) (settings weights : Table Nat) (st : FrameStore)
    (p : Port) : StoreKeeps may settings st (st.complete weights p) := by
  unfold FrameStore.complete
  split
  · exact .refl _ _ _
  · next t ht => exact (StoreKeeps.endTx (may := may) ht rfl).trans (.select ..)

end StoreKeeps

/-! ### What leaves the link states alone -/

@[simp] theorem FrameStore.up_select (st : FrameStore) (settings : Table Nat) (p q : Port) :
    ((st.select settings p).port q).up = (st.port q).up := by
  rcases st.select_cases settings p with h | ⟨c, e, rest, turn, credit, -, -, -, -, h⟩ <;> rw [h]
  rw [FrameStore.port_setPort, FrameStore.port_setQueue]
  split
  next e => rw [e]
  next => rfl

@[simp] theorem FrameStore.up_offer (st : FrameStore) (settings : Table Nat) (p q : Port) (c : Class) (e : QueueEntry) :
    ((st.offer settings p c e).2.port q).up = (st.port q).up := by
  rcases st.offer_cases settings p c e with ⟨_, -, h⟩ | ⟨-, h⟩ <;> rw [h] <;> simp

theorem FrameStore.up_setPort {st : FrameStore} {p : Port} {v : PortState} (h : v.up = (st.port p).up) (q : Port) :
    ((st.setPort p v).port q).up = (st.port q).up := by
  rw [FrameStore.port_setPort]
  split
  next e => rw [e, h]
  next => rfl

@[simp] theorem FrameStore.up_complete (st : FrameStore) (settings : Table Nat) (p q : Port) :
    ((st.complete settings p).port q).up = (st.port q).up := by
  unfold FrameStore.complete
  split
  · rfl
  · rw [FrameStore.up_select]
    exact FrameStore.up_setPort (st := st.giveBack _) (by rfl) q

@[simp] theorem FrameStore.up_cutOff (st : FrameStore) (p q : Port) : ((st.cutOff p).port q).up = (st.port q).up := by
  unfold FrameStore.cutOff
  split
  · rfl
  · exact FrameStore.up_setPort (st := st) (by rfl) q

@[simp] theorem FrameStore.up_resetTurn (st : FrameStore) (p q : Port) :
    ((st.resetTurn p).port q).up = (st.port q).up :=
  FrameStore.up_setPort (st := st) (by rfl) q

end Sys2Proof.Machine

/-! PROOFS. What an operation of the part keeps: `Keeps` collects, in one relation between the states before and after,
every law that a step is to keep. It is reflexive and transitive, and there is one rule for each block an operation may
change, which asks for what concerns that block alone. -/

namespace Sys2Proof.Machine

/-- What one command may do that others may not: `fits` says that its operands fit their places, `writes` which slots
it sets to their NEVER values, `releases` which links it may take out of HOLD and RELEASING, and `rewrites` which link
records are in the middle of a change. -/
structure Licence where
  fits : Prop
  writes : Slot → Prop
  releases : Link → Prop
  rewrites : Link → Prop

/-- A link's record fits the places its layout has (R198). -/
def CraneLink.sizes (k : CraneLink) : Prop :=
  k.config.template.length ≤ 64 ∧ k.resolved.length ≤ 2 ∧ k.previous.length ≤ 2

/-- A slot fits the places its layout has (R198). -/
def ReeferSlot.sizes (v : ReeferSlot) : Prop := v.config.mark.length = 11 ∧ v.record.alarms.length ≤ 4

/-- The operation that leads from one state to the other keeps every law of the part, under a licence. -/
structure Keeps (x : Licence) (s t : State) : Prop where
  pending : t.pending = s.pending
  pool : s.poolWhole → t.poolWhole
  limits : s.limitsKept → t.limitsKept
  flags : s.flagsTrue → t.flagsTrue
  canonical : s.canonical → t.canonical
  bearers : s.bearersLegal → t.bearersLegal
  legal : ∀ l, ¬ x.rewrites l → (s.link l).legal → (t.link l).legal
  held : ∀ l, ¬ x.releases l → (s.link l).isHeld → (t.link l).isHeld
  quiet : s.heldQuiet → t.heldQuiet
  cover : s.coverLegal → t.coverLegal
  list : s.listExact → t.listExact
  excursion : ∀ i, ¬ x.writes i → (s.slot i).record.excursion ≤ 4294967295 →
    (s.slot i).record.excursion ≤ (t.slot i).record.excursion ∧ (t.slot i).record.excursion ≤ 4294967295
  notices : s.noticesLegal → t.noticesLegal
  buffers : s.buffersLegal → t.buffersLegal
  sizes : x.fits → s.sizesLegal → t.sizesLegal

variable {x : Licence} {s t u : State}

theorem Keeps.refl (x : Licence) (s : State) : Keeps x s s :=
  ⟨rfl, id, id, id, id, id, fun _ _ => id, fun _ _ => id, id, id, id, fun _ _ h => ⟨Nat.le_refl _, h⟩, id, id,
    fun _ => id⟩

theorem Keeps.trans (h : Keeps x s t) (k : Keeps x t u) : Keeps x s u where
  pending := k.pending.trans h.pending
  pool := k.pool ∘ h.pool
  limits := k.limits ∘ h.limits
  flags := k.flags ∘ h.flags
  canonical := k.canonical ∘ h.canonical
  bearers := k.bearers ∘ h.bearers
  legal l hl := k.legal l hl ∘ h.legal l hl
  held l hl := k.held l hl ∘ h.held l hl
  quiet := k.quiet ∘ h.quiet
  cover := k.cover ∘ h.cover
  list := k.list ∘ h.list
  excursion i hi hb := by
    obtain ⟨h1, h2⟩ := h.excursion i hi hb
    obtain ⟨h3, h4⟩ := k.excursion i hi h2
    exact ⟨Nat.le_trans h1 h3, h4⟩
  notices := k.notices ∘ h.notices
  buffers := k.buffers ∘ h.buffers
  sizes hf := k.sizes hf ∘ h.sizes hf

theorem Keeps.after (k : Keeps x t u) (h : Keeps x s t) : Keeps x s u := h.trans k

theorem Keeps.foldl {β : Type} {f : State → β → State} (h : ∀ s b, Keeps x s (f s b)) (l : List β) (s : State) :
    Keeps x s (l.foldl f s) := by
  induction l generalizing s with
  | nil => exact .refl x s
  | cons b l ih => exact (h s b).trans (ih _)

/-- The change of a link's record is finished, and the record is legal again. -/
theorem Keeps.finish {y : Licence} {l : Link} (h : Keeps y s t) (hf : x.fits → y.fits)
    (hw : ∀ i, y.writes i → x.writes i) (hr : ∀ m, y.releases m → x.releases m)
    (hb : ∀ m, y.rewrites m → m = l ∨ x.rewrites m) (hl : ¬ x.rewrites l → (s.link l).legal → (t.link l).legal) :
    Keeps x s t :=
  { h with
    legal := fun m hm => if e : m = l then e ▸ fun h => hl (e ▸ hm) h else h.legal m fun hy => (hb m hy).elim e hm
    held := fun m hm => h.held m fun hy => hm (hr m hy)
    excursion := fun i hi => h.excursion i fun hy => hi (hw i hy)
    sizes := fun hx => h.sizes (hf hx) }

/-! ### The blocks that concern one law alone -/

theorem Keeps.of_clock (q : QuayTime) (n : Nat) : Keeps x s { s with quayTime := q, lineTime := n } :=
  { Keeps.refl x s with pending := rfl }

theorem Keeps.of_summary (b : SummaryBuilder) : Keeps x s { s with summary := b } :=
  { Keeps.refl x s with pending := rfl }

theorem Keeps.of_notices {v : NoticeUnit} (h : s.noticesLegal → ({ s with notices := v } : State).noticesLegal) :
    Keeps x s { s with notices := v } :=
  { Keeps.refl x s with pending := rfl, notices := h }

theorem Keeps.of_capture {v : CaptureUnit} (h : s.capture.buffer.length ≤ 256 → v.buffer.length ≤ 256) :
    Keeps x s { s with capture := v } :=
  { Keeps.refl x s with pending := rfl, buffers := fun ⟨h1, h2⟩ => ⟨h h1, h2⟩ }

theorem Keeps.of_coverage {v : CoverageMap} (hw : s.coverage.entries.wf = true → v.entries.wf = true)
    (h : s.coverLegal → ∀ i, (v.entries.get i).legal) : Keeps x s { s with coverage := v } :=
  { Keeps.refl x s with
    pending := rfl, cover := h
    canonical := fun ⟨a, b, c, d, e, f, g, i, j, k, l, m⟩ => ⟨a, b, c, d, e, f, g, i, j, k, hw l, m⟩ }

theorem Keeps.of_paths {v : Paths} (hg : v.geometry.get 255 = s.paths.geometry.get 255 ∨ v.geometry.get 255 = none)
    (hw : s.canonical → v.geometry.wf = true ∧ v.staged.wf = true ∧ v.active.wf = true) :
    Keeps x s { s with paths := v } :=
  { Keeps.refl x s with
    pending := rfl
    flags := fun ⟨a, b⟩ => ⟨a, hg.elim (fun e => e.trans b) id⟩
    canonical := fun hc => by
      obtain ⟨h1, h2, h3⟩ := hw hc
      obtain ⟨a, b, c, d, e, f, g, -, -, -, l, m⟩ := hc
      exact ⟨a, b, c, d, e, f, g, h1, h2, h3, l, m⟩ }

/-- The endpoint's counters, its result shown and the progress of a request concern no law. -/
theorem Keeps.of_endpoint {v : Endpoint} (hm : s.endpoint.managers.wf = true → v.managers.wf = true)
    (hl : s.endpoint.requests.length ≤ 4 → v.requests.length ≤ 4)
    (hr : ∀ q ∈ v.requests, q ∈ s.endpoint.requests ∨ ∀ w ∈ q.commands, w.wellFormed = true)
    (he : ∀ e, v.executing = some e → (∃ d, s.endpoint.executing = some d ∧ e.request = d.request)) :
    Keeps x s { s with endpoint := v } :=
  { Keeps.refl x s with
    pending := rfl
    canonical := fun ⟨a, b, c, d, e, f, g, i, j, k, l, m, n, o⟩ => ⟨a, b, c, d, e, f, g, i, j, k, l, m, n, hm o⟩
    buffers := fun ⟨h1, h2⟩ => ⟨h1, hl h2⟩
    sizes := fun _ ⟨h1, h2, h3, h4, h5⟩ => ⟨h1, h2, h3,
      fun q hq => (hr q hq).elim (fun h => h4 q h) id,
      fun e hee => by
        obtain ⟨d, hd, hed⟩ := he e hee
        rw [hed]
        exact h5 d hd⟩ }

/-- A change of the endpoint that leaves the manager list, the requests and the executing request alone. -/
theorem Keeps.of_endpoint_counts {v : Endpoint} (hm : v.managers = s.endpoint.managers)
    (hr : v.requests = s.endpoint.requests) (he : v.executing = s.endpoint.executing) :
    Keeps x s { s with endpoint := v } :=
  .of_endpoint (by rw [hm]; exact id) (by rw [hr]; exact id) (fun q hq => .inl (hr ▸ hq))
    fun e h => ⟨e, he ▸ h, rfl⟩

theorem Keeps.of_arrivals (p : Port) (c : ArrivalCounts) : Keeps x s (s.setArrivals p c) :=
  { Keeps.refl x s with
    pending := rfl
    canonical := fun ⟨a, b, c, d, e⟩ => ⟨a, b, c, Table.wf_set _ _ _ d, e⟩ }

/-! ### The Frame Store -/

/-- A frame may newly wait in a queue: a copy of a control frame in class 0 of a quay port, and no received frame of a
held link's bearer on a quay port (R59). -/
def State.mayWait (s : State) (p : Port) (c : Class) (o : Origin) : Prop :=
  (∀ r, o = .control r → p ≠ .y ∧ c = 0) ∧
  ∀ r, o = .control r ∨ o = .forwarded r → p ≠ .y → ∀ l, (s.link l).isHeld → r.bearer ≠ (s.link l).config.bearer

/-- The frames that may newly wait, in a state that keeps the law of held links. -/
abbrev State.waits (s : State) (p : Port) (c : Class) (o : Origin) : Prop := s.heldQuiet → s.mayWait p c o

/-- Frames the part composes may wait anywhere. -/
theorem State.mayWait_composed (s : State) (p : Port) (c : Class) {o : Origin} (hc : ∀ r, o ≠ .control r)
    (hf : ∀ r, o ≠ .forwarded r) : s.mayWait p c o :=
  ⟨fun r e => absurd e (hc r), fun r e => e.elim (fun e => absurd e (hc r)) (fun e => absurd e (hf r))⟩

/-- The queues of a store keep the law of held links where every new entry may wait. -/
theorem State.heldQuiet.of_store {st : FrameStore} (h : s.heldQuiet)
    (hk : StoreKeeps s.waits s.settings s.store st) : ({ s with store := st } : State).heldQuiet := by
  obtain ⟨h1, h2, h3⟩ := h
  refine ⟨h1, fun p c e he r hr => ?_, fun l hl p c hp e he r hr => ?_⟩
  · rcases hk.entries p c e he with ⟨f, hf, ho⟩ | hm
    · exact h2 p c f hf r (ho.trans hr)
    · exact (hm ⟨h1, h2, h3⟩).1 r hr
  · rcases hk.entries p c e he with ⟨f, hf, ho⟩ | hm
    · exact h3 l hl p c hp f hf r (by rw [ho]; exact hr)
    · exact (hm ⟨h1, h2, h3⟩).2 r hr hp l hl

theorem State.limitsKept.of_store {st : FrameStore} {may : Port → Class → Origin → Prop} (h : s.limitsKept)
    (hk : StoreKeeps may s.settings s.store st) : ({ s with store := st } : State).limitsKept := by
  obtain ⟨h1, h2⟩ := h
  refine ⟨h1, fun p c => ?_⟩
  have hold := h2 p c
  exact (hk.length p c).elim (fun h => Nat.le_trans h hold) id

theorem Keeps.of_store {st : FrameStore} (hk : StoreKeeps s.waits s.settings s.store st)
    (hup : ∀ p, (st.port p).up = (s.store.port p).up) : Keeps x s { s with store := st } :=
  { Keeps.refl x s with
    pending := rfl
    pool := fun h => hk.whole.trans h
    limits := fun h => h.of_store hk
    flags := fun ⟨a, b⟩ => ⟨fun c => (a c).trans (by rw [hup]; rfl), b⟩
    canonical := fun ⟨a, b, c, d, e, f, g⟩ => ⟨a, b, c, d, (hk.wf ⟨e, f⟩).1, (hk.wf ⟨e, f⟩).2, g⟩
    quiet := fun h => h.of_store hk }

theorem Keeps.of_offer {p : Port} {c : Class} {k : Option Cell} {o : Origin} (f : Frame)
    (h : s.heldQuiet → s.mayWait p c o) : Keeps x s (s.offer p c k o f).2 :=
  .of_store (.offer h) fun _ => FrameStore.up_offer ..

/-! ### Crane links -/

/-- What the change of one link's record keeps of it. -/
structure LinkKeeps (x : Licence) (l : Link) (k v : CraneLink) : Prop where
  legal : ¬ x.rewrites l → k.legal → v.legal
  held : ¬ x.releases l → k.isHeld → v.isHeld
  sizes : x.fits → k.sizes → v.sizes

theorem Keeps.of_setLink {l : Link} {v : CraneLink} (h : LinkKeeps x l (s.link l) v)
    (hq : s.heldQuiet → (s.setLink l v).heldQuiet) : Keeps x s (s.setLink l v) :=
  { Keeps.refl x s with
    pending := rfl
    legal := fun m hm hl => by
      rw [State.link_setLink]
      split
      next e => subst e; exact h.legal hm hl
      next => exact hl
    held := fun m hm hl => by
      rw [State.link_setLink]
      split
      next e => subst e; exact h.held hm hl
      next => exact hl
    canonical := fun ⟨a, b, c, d, e, f, g, i⟩ => ⟨a, b, c, d, e, f, Table.wf_set _ _ _ g, i⟩
    quiet := hq
    sizes := fun hf ⟨h1, h2⟩ => ⟨fun m => by
      rw [State.link_setLink]
      split
      next e => subst e; exact h.sizes hf (h1 m)
      next => exact h1 m, h2⟩ }

/-- A link that comes out of IDLE nowhere and into HOLD nowhere keeps the law of held links. -/
theorem State.heldQuiet.of_setLink {l : Link} {v : CraneLink} (h : s.heldQuiet)
    (hb : v.state ≠ .idle → (s.link l).state ≠ .idle ∧ v.config.bearer = (s.link l).config.bearer)
    (hh : v.isHeld → (s.link l).isHeld) : (s.setLink l v).heldQuiet := by
  obtain ⟨h1, h2, h3⟩ := h
  refine ⟨fun m => ?_, h2, fun m => ?_⟩
  · rw [State.link_setLink]
    split
    next e =>
      subst e
      intro hv
      obtain ⟨hs, hbe⟩ := hb hv
      rw [hbe]
      exact h1 m hs
    next => exact h1 m
  · rw [State.link_setLink]
    split
    next e =>
      subst e
      intro hv
      have hne : v.state ≠ .idle := by rcases hv with hv | hv <;> rw [hv] <;> decide
      rw [(hb hne).2]
      exact h3 m (hh hv)
    next => exact h3 m

/-- A change of a link's record that leaves its configuration's bearer and template alone, its state too. -/
theorem Keeps.of_setLink_same {l : Link} {v : CraneLink} (h : LinkKeeps x l (s.link l) v)
    (hs : v.state = (s.link l).state) (hb : v.config.bearer = (s.link l).config.bearer) : Keeps x s (s.setLink l v) :=
  .of_setLink h fun hq => hq.of_setLink (fun hv => ⟨hs ▸ hv, hb⟩) fun hv => by
    unfold CraneLink.isHeld at hv ⊢
    rwa [← hs]

/-- A change of counters and other fields that no law of a link speaks of. -/
theorem LinkKeeps.of_fields {l : Link} {k v : CraneLink} (hc : v.config = k.config) (hs : v.state = k.state)
    (hp : v.commitPending = k.commitPending) (hr : v.reason = k.reason) (he : v.releaseExpiry = k.releaseExpiry)
    (hn : v.nextHold = k.nextHold) (hu : v.upDeadline = k.upDeadline) (hd : v.downDeadline = k.downDeadline)
    (ha : v.upAlive = k.upAlive) (hres : v.resolved = k.resolved) (hprev : v.previous = k.previous)
    (ho : v.overlapExpiry = k.overlapExpiry) : LinkKeeps x l k v where
  legal _ h := by
    unfold CraneLink.legal CraneLink.isHeld CraneLink.isWorking at h ⊢
    rw [hc, hs, hp, hr, he, hn, hu, hd, ha, hres, hprev, ho]
    exact h
  held _ h := by
    unfold CraneLink.isHeld at h ⊢
    rwa [hs]
  sizes _ h := by
    unfold CraneLink.sizes at h ⊢
    rwa [hc, hres, hprev]

/-! ### Descriptors, slots -/

theorem Keeps.of_bearers {b : Table Descriptor}
    (hl : s.bearersLegal → (∀ i, (b.get i).level ≤ (b.get i).burstBytes) ∧ b.get 0 = .cold)
    (hw : s.classifier.bearers.wf = true → b.wf = true)
    (ht : ∀ l, (s.link l).state ≠ .idle → (s.link l).config.bearer ≠ 0 →
      (s.bearer (s.link l).config.bearer.toNat).treatment = .crane l →
      (b.get (s.link l).config.bearer.toNat).treatment = .crane l) :
    Keeps x s { s with classifier := { s.classifier with bearers := b } } :=
  { Keeps.refl x s with
    pending := rfl
    bearers := hl
    canonical := fun ⟨a, b, c⟩ => ⟨a, hw b, c⟩
    quiet := fun ⟨h1, h2, h3⟩ => ⟨fun l hs => ⟨(h1 l hs).1, ht l hs (h1 l hs).1 (h1 l hs).2⟩, h2, h3⟩ }

theorem Keeps.of_setBearer {i : Nat} {d : Descriptor}
    (hl : (s.bearer i).level ≤ (s.bearer i).burstBytes → d.level ≤ d.burstBytes)
    (h0 : s.bearersLegal → i ≠ 0) (ht : d.treatment = (s.bearer i).treatment) : Keeps x s (s.setBearer i d) := by
  refine .of_bearers (fun h => ⟨fun j => ?_, ?_⟩) (Table.wf_set _ _ _) fun l _ _ h => ?_
  · rw [Table.get_set]
    split
    · exact hl (h.1 i)
    · exact h.1 j
  · rw [Table.get_set_other _ _ (h0 h).symm]
    exact h.2
  · rw [Table.get_set]
    split
    next e => rw [ht, ← e]; exact h
    next => exact h

theorem Keeps.of_registry {g : Registry} (hl : s.listExact → ({ s with registry := g } : State).listExact)
    (hx : ∀ i : Slot, ¬ x.writes i → (s.slot i).record.excursion ≤ 4294967295 →
      (s.slot i).record.excursion ≤ (g.slots.get i.val).record.excursion ∧
        (g.slots.get i.val).record.excursion ≤ 4294967295)
    (hw : s.registry.slots.wf = true ∧ s.registry.profiles.wf = true → g.slots.wf = true ∧ g.profiles.wf = true)
    (hz : x.fits → (∀ i : Slot, (s.slot i).sizes) → ∀ i : Slot, (g.slots.get i.val).sizes) :
    Keeps x s { s with registry := g } :=
  { Keeps.refl x s with
    pending := rfl, list := hl, excursion := hx
    canonical := fun ⟨a, b, c, d, e, f, g, i, j, k, l, m, n, o⟩ =>
      ⟨a, b, c, d, e, f, g, i, j, k, l, (hw ⟨m, n⟩).1, (hw ⟨m, n⟩).2, o⟩
    sizes := fun hf ⟨h1, h2, h3⟩ => ⟨h1, hz hf h2, h3⟩ }

/-- A change of the registry's counters. -/
theorem Keeps.of_registry_counts {g : Registry} (hs : g.slots = s.registry.slots) (hp : g.profiles = s.registry.profiles)
    (hc : g.changeList = s.registry.changeList) : Keeps x s { s with registry := g } := by
  have hslot : ∀ i, ({ s with registry := g } : State).slot i = s.slot i := fun i => by simp [State.slot, hs]
  refine .of_registry ?_ (fun i _ h => ?_) ?_ fun _ h i => ?_
  · unfold State.listExact
    simp only [hslot, hc, imp_self]
  · rw [hs]; exact ⟨Nat.le_refl _, h⟩
  · rw [hs, hp]; exact id
  · rw [hs]; exact h i

end Sys2Proof.Machine

/-! PROOFS. What the shared operations keep: notices and their emission (chapter 8), presentations to the Capture Unit
(chapter 9), the offers of a frame that passed (2.3, 2.5), and the samples of a trailer (chapter 5). -/

namespace Sys2Proof.Machine

variable {x : Licence}

/-! ### Notices (R152 to R159) -/

theorem withoutSelected_sublist (queue chosen : List Notice) : (withoutSelected queue chosen).Sublist queue := by
  induction chosen generalizing queue with
  | nil => exact List.Sublist.refl _
  | cons n chosen ih => exact (ih _).trans List.erase_sublist

theorem lowestLevel_mem {queue : List Notice} {m : Nat} (h : lowestLevel queue = some m) :
    ∃ n ∈ queue, n.level = m := by
  induction queue generalizing m with
  | nil => simp [lowestLevel] at h
  | cons n rest ih =>
    unfold lowestLevel at h
    split at h
    next => exact ⟨n, by simp, by simpa using h⟩
    next k hk =>
      obtain ⟨r, hr, hrk⟩ := ih hk
      have hm : min n.level k = m := by simpa using h
      rcases Nat.le_total n.level k with hle | hle
      · exact ⟨n, by simp, by omega⟩
      · exact ⟨r, by simp [hr], by omega⟩

theorem lowestLevel_isSome {queue : List Notice} (h : queue ≠ []) : ∃ m, lowestLevel queue = some m := by
  cases queue with
  | nil => exact absurd rfl h
  | cons n rest =>
    unfold lowestLevel
    split
    · exact ⟨_, rfl⟩
    · exact ⟨_, rfl⟩

theorem evictNewest_sublist (queue : List Notice) (level : Nat) : (evictNewest queue level).Sublist queue := by
  have h := (List.eraseP_sublist (p := fun n : Notice => n.level == level) (l := queue.reverse)).reverse
  rwa [List.reverse_reverse] at h

/-- A queue that is not empty loses one notice of its lowest level. -/
theorem length_evictNewest {queue : List Notice} (h : queue ≠ []) :
    (evictNewest queue ((lowestLevel queue).getD 0)).length + 1 = queue.length := by
  obtain ⟨m, hm⟩ := lowestLevel_isSome h
  obtain ⟨n, hn, hl⟩ := lowestLevel_mem hm
  have hpos := List.length_pos_of_mem hn
  rw [hm, evictNewest, List.length_reverse, Option.getD_some,
    List.length_eraseP_of_mem (a := n) (by simpa using hn) (by simpa using hl), List.length_reverse]
  omega

theorem keeps_emit (n : Nat) (s : State) : Keeps x s (emit n s) := by
  induction n generalizing s with
  | zero => exact .refl x s
  | succ n ih =>
    unfold emit
    split
    · exact .refl x s
    · have hoffer : ∀ f, Keeps x s (s.offer .y 1 none .notice f).2 := fun f =>
        .of_offer f fun _ => s.mayWait_composed _ _ (by simp) (by simp)
      simp only
      split
      · refine (hoffer _).trans (.trans (.of_notices ?_) (ih _))
        rintro ⟨hlen, hlevel⟩
        have hsub := withoutSelected_sublist s.notices.queue (selectNotices s.notices.queue)
        exact ⟨Nat.le_trans hsub.length_le hlen, fun n hn => hlevel n (hsub.subset hn)⟩
      · exact (hoffer _).trans (.of_notices id)

theorem keeps_emitNotices (s : State) : Keeps x s s.emitNotices := keeps_emit _ s

theorem keeps_takeNotice (n : Notice) (s : State) : Keeps x s (s.takeNotice n) := by
  unfold State.takeNotice
  simp only
  split
  · exact .of_notices id
  · next hfloor =>
    have hjoin : ∀ {l : List Notice}, l.length + 1 ≤ 64 → (∀ m ∈ l, s.setting 50 < m.level) →
        (l ++ [n]).length ≤ 64 ∧ ∀ m ∈ l ++ [n], s.setting 50 < m.level := fun hl hm =>
      ⟨by simpa using hl, fun m h => (List.mem_append.1 h).elim (hm m) fun h => by
        rw [List.mem_singleton.1 h]; omega⟩
    split
    · next hroom => exact .after (keeps_emitNotices _) (.of_notices fun h => hjoin hroom h.2)
    · next hroom =>
      split
      · refine .after (keeps_emitNotices _) (.of_notices ?_)
        rintro ⟨hlen, hlevel⟩
        have hne : s.notices.queue ≠ [] := fun e => by simp [e] at hroom
        have hev := length_evictNewest hne
        exact hjoin (by omega) fun m hm => hlevel m ((evictNewest_sublist _ _).subset hm)
      · exact .of_notices id

theorem keeps_notify (ev : Event) (i level : Nat) (data : Option (BitVec 16)) (s : State) :
    Keeps x s (s.notify ev i level data) := by
  unfold State.notify
  split
  · exact .refl x s
  · exact keeps_takeNotice _ s

/-! ### The Capture Unit (R164 to R173) -/

theorem keeps_freeze (s : State) : Keeps x s (freeze s) :=
  .trans (.of_capture (v := { s.capture with state := .frozen }) id) (keeps_notify ..)

theorem keeps_trigger (v : Verdict) (s : State) : Keeps x s (trigger v s) := by
  have hnotice : Keeps x s (({ s with capture := { s.capture with triggers := bump16 s.capture.triggers } } : State).notify
      .triggered 0 (s.setting 53) v.bearerWord) := .after (keeps_notify ..) (.of_capture id)
  unfold trigger
  simp only
  generalize State.notify _ _ _ _ _ = t at hnotice ⊢
  refine hnotice.trans ?_
  split
  · exact .of_capture id
  · split
    · exact .after (keeps_freeze _) (.of_capture id)
    · exact .of_capture id

theorem keeps_countToTrigger (v : Verdict) (s : State) : Keeps x s (countToTrigger v s) := by
  unfold countToTrigger
  simp only
  split
  · exact .after (keeps_trigger _ _) (.of_capture id)
  · exact .of_capture id

theorem keeps_actArmed (v : Verdict) (a b : Bool) (s : State) : Keeps x s (actArmed v a b s) := by
  have hcount : ∀ g : Bool, Keeps x s (if g then countToTrigger v s else s) := fun g => by
    cases g
    · exact .refl x s
    · exact keeps_countToTrigger v s
  unfold actArmed
  split
  case h_1 => exact hcount a
  case h_2 => exact hcount (a || b)
  case h_3 => exact hcount (a && b)
  case h_4 =>
    split
    · exact .of_capture id
    · exact .refl x s
  case h_5 =>
    split
    · exact keeps_trigger v s
    · exact .refl x s
  case h_6 => exact .refl x s

theorem keeps_actPost (r : Bool) (s : State) : Keeps x s (actPost r s) := by
  unfold actPost
  simp only
  split
  · split
    · exact .after (keeps_freeze _) (.of_capture id)
    · exact .of_capture id
  · exact .refl x s

theorem keeps_actTracing (s : State) : Keeps x s (actTracing s) := by
  unfold actTracing
  simp only
  split
  · exact .after (keeps_freeze _) (.of_capture id)
  · exact .of_capture id

theorem CaptureUnit.length_see {u : CaptureUnit} (now : QuayTime) (v : Verdict) (a b : Bool)
    (h : u.buffer.length ≤ 256) : (u.see now v a b).buffer.length ≤ 256 := by
  rw [CaptureUnit.see_eq]
  show (if u.records a b then _ else _ : List CaptureEntry).length ≤ 256
  split
  · simp only [List.length_append, List.length_drop, List.length_singleton]; omega
  · exact h

theorem keeps_present (v : Verdict) (s : State) : Keeps x s (present v s) := by
  have hsee : ∀ a b, Keeps x s { s with capture := s.capture.see s.quayTime v a b } := fun a b =>
    .of_capture (CaptureUnit.length_see _ _ _ _)
  unfold present
  simp only
  split
  case h_1 => exact hsee _ _
  case h_2 => exact hsee _ _
  case h_3 => exact (hsee _ _).trans (keeps_actArmed _ _ _ _)
  case h_4 =>
    split
    · exact (hsee _ _).trans (keeps_countToTrigger _ _)
    · exact hsee _ _
  case h_5 => exact (hsee _ _).trans (keeps_actPost _ _)
  case h_6 => exact (hsee _ _).trans (keeps_actTracing _)

theorem keeps_dispose (r : Passed) (k : Option CraneState) (d : Disposition) (s : State) :
    Keeps x s (dispose r k d s) := keeps_present _ s

/-! ### Frames that passed (R30, R36, R37) -/

theorem quayPort_ne_y (n : Fin 4) : quayPort n ≠ .y := by revert n; decide

/-- What waits on the yard port is under no law of held links. -/
theorem State.mayWait_yard (s : State) (c : Class) (r : Classification) : s.mayWait .y c (.forwarded r) :=
  ⟨by simp, fun _ _ h => absurd rfl h⟩

theorem keeps_forwardUp (r : Passed) (k : Option CraneState) (s : State) : Keeps x s (forwardUp r k s) :=
  (Keeps.of_offer _ fun _ => s.mayWait_yard _ _).trans (keeps_dispose ..)

/-- A frame that no held link's bearer sends may wait on a quay port, a copy of a control frame in class 0. -/
theorem State.mayWait_quay (s : State) (n : Fin 4) (c : Class) (o : Origin) (r : Passed) (k : Option CraneState)
    (ho : o = .forwarded (r.result k) ∨ o = .control (r.result k) ∧ c = 0)
    (hb : ∀ l, (s.link l).isHeld → r.header.bearer ≠ (s.link l).config.bearer) : s.mayWait (quayPort n) c o := by
  rcases ho with rfl | ⟨rfl, rfl⟩
  · refine ⟨by simp, fun q e _ l hl => ?_⟩
    rcases e with e | e <;> cases e
    exact hb l hl
  · refine ⟨fun _ _ => ⟨quayPort_ne_y n, rfl⟩, fun q e _ l hl => ?_⟩
    rcases e with e | e <;> cases e
    exact hb l hl

theorem keeps_forwardDown (r : Passed) (k : Option CraneState) (o : Origin) (s : State)
    (ho : o = .forwarded (r.result k) ∨ o = .control (r.result k) ∧ r.cls = 0)
    (hb : s.heldQuiet → ∀ l, (s.link l).isHeld → r.header.bearer ≠ (s.link l).config.bearer) :
    Keeps x s (forwardDown r k o s) := by
  unfold forwardDown
  split
  · exact .trans (.of_store (st := { s.store with noCell := s.store.noCell + 1 })
      ⟨rfl, id, fun _ _ => .inl (Nat.le_refl _), fun _ _ e he => .inl ⟨e, he, rfl⟩⟩ fun _ => rfl) (keeps_dispose ..)
  · exact (Keeps.of_offer _ fun h => s.mayWait_quay _ _ _ r k ho (hb h)).trans (keeps_dispose ..)

/-- The offers on several cells change the Frame Store alone, and keep there what each of them keeps. -/
theorem offerOnCells_storeKeeps {o : Origin} {may : Port → Class → Origin → Prop} (h : ∀ n, may (quayPort n) 0 o)
    (f : Frame) (cells : List Cell) (s : State) :
    ∃ st, (offerOnCells o f cells s).2 = { s with store := st } ∧ StoreKeeps may s.settings s.store st ∧
      ∀ p, (st.port p).up = (s.store.port p).up := by
  induction cells generalizing s with
  | nil => exact ⟨s.store, rfl, .refl _ _ _, fun _ => rfl⟩
  | cons c cells ih =>
    unfold offerOnCells
    split
    · obtain ⟨st, hst, hk, hup⟩ := ih (s.offer (quayPort (s.cell c).quayPort) 0 (some c) o f).2
      exact ⟨st, hst, .trans (.offer (h _)) hk, fun p => (hup p).trans (FrameStore.up_offer ..)⟩
    · exact ih s

theorem keeps_offerOnCells {o : Origin} (f : Frame) (cells : List Cell) (s : State)
    (h : s.heldQuiet → ∀ n, s.mayWait (quayPort n) 0 o) : Keeps x s (offerOnCells o f cells s).2 := by
  obtain ⟨st, hst, hk, hup⟩ := offerOnCells_storeKeeps (may := s.waits) (fun n hq => h hq n) f cells s
  rw [hst]
  exact .of_store hk hup

/-! ### Samples (R94 to R104) -/

theorem movedEstimate_le (estimate q k : Nat) : movedEstimate estimate q k ≤ 4080 := by
  unfold movedEstimate; omega

theorem CoverEntry.sampled_legal {e : CoverEntry} (he : e.legal) (now : QuayTime) (limit k : Nat) {q : Nat}
    (hq : q ≤ 255) (after : CoverState) : ({ e.sampled now limit q k with state := after } : CoverEntry).legal := by
  obtain ⟨-, -, -, -⟩ := he
  have hm := movedEstimate_le e.estimate q k
  refine ⟨?_, ?_, ?_, ?_⟩ <;> simp only [CoverEntry.sampled] <;> by_cases h : e.count = 0 <;> simp [h] <;> omega

theorem keeps_noticeEdge (i estimate : Nat) (before after : CoverState) (s : State) :
    Keeps x s (noticeEdge i estimate before after s) := by
  unfold noticeEdge
  split
  case h_1 => exact keeps_notify ..
  case h_2 => exact keeps_notify ..
  case h_3 => exact .refl x s

theorem keeps_takeSample (i k : Nat) {q : Nat} (hq : q ≤ 255) (s : State) : Keeps x s (takeSample i q k s) := by
  unfold takeSample
  simp only
  refine .trans (.of_coverage (Table.wf_set _ _ _) fun h j => ?_) (keeps_noticeEdge ..)
  rw [Table.get_set]
  split
  · exact CoverEntry.sampled_legal (h i) _ _ _ hq _
  · exact h j

theorem keeps_offerSample (g : Segment) (k : Nat) (s : State) (sample : Byte × Byte) :
    Keeps x s (offerSample g k s sample) := by
  unfold offerSample
  split
  · split
    · exact keeps_takeSample _ _ (by omega) s
    · exact .of_coverage id id
  · exact .of_coverage id id

theorem keeps_offerSamples (g : Segment) (cell : Byte) (t : Trailer) (k : Nat) (s : State) :
    Keeps x s (offerSamples g cell t k s) := .foldl (keeps_offerSample g k) _ s

theorem keeps_offerTrailer (crane : Bool) (g : Option Segment) (cell : Byte) (t : Option Trailer) (s : State) :
    Keeps x s (offerTrailer crane g cell t s) := by
  unfold offerTrailer
  split
  · unfold offerCoverage
    split
    · exact keeps_offerSamples ..
    · split
      · exact .of_coverage id id
      · exact .after (keeps_offerSamples ..) (.of_coverage id id)
  · exact .refl x s

end Sys2Proof.Machine

/-! PROOFS. What the operations on reefer slots keep (chapters 6 and 7): reports, expiries and summaries. -/

namespace Sys2Proof.Machine

variable {x : Licence} {s : State}

/-! ### The change list (R132, R139) -/

/-- A slot's record is replaced; its flag stays and the list too, or its flag is set and it joins the list. -/
theorem Keeps.of_slot {g : Registry} {i : Slot} {r : ReeferRecord}
    (hs : g.slots = s.registry.slots.set i.val { s.slot i with record := r }) (hp : g.profiles = s.registry.profiles)
    (hl : (r.changed = (s.slot i).record.changed ∧ g.changeList = s.registry.changeList) ∨
      (s.slot i).record.changed = false ∧ r.changed = true ∧ g.changeList = s.registry.changeList ++ [i])
    (hreg : s.listExact → (s.slot i).config.registered = true)
    (hx : (s.slot i).record.excursion ≤ 4294967295 →
      (s.slot i).record.excursion ≤ r.excursion ∧ r.excursion ≤ 4294967295)
    (ha : (s.slot i).record.alarms.length ≤ 4 → r.alarms.length ≤ 4) : Keeps x s { s with registry := g } := by
  have hslot : ∀ j : Slot, g.slots.get j.val = if j = i then { s.slot i with record := r } else s.slot j := fun j => by
    rw [hs, Table.get_set]
    simp [Fin.ext_iff, State.slot]
  refine .of_registry (fun ⟨hnodup, hmem, harmed, hbound⟩ => ?_) (fun j _ hj => ?_) (fun h => ?_) fun _ h j => ?_
  · have hr := hreg ⟨hnodup, hmem, harmed, hbound⟩
    refine ⟨?_, fun j => ?_, fun j => ?_, fun j => ?_⟩
    · show g.changeList.Nodup
      rcases hl with ⟨-, hl⟩ | ⟨hold, -, hl⟩ <;> rw [hl]
      · exact hnodup
      · refine List.nodup_append.2 ⟨hnodup, List.nodup_singleton i, fun a ha b hb e => ?_⟩
        have hi := (hmem i).1 (List.mem_singleton.1 hb ▸ e ▸ ha)
        simp [hold] at hi
    · show j ∈ g.changeList ↔ (g.slots.get j.val).record.changed = true
      rw [hslot]
      rcases hl with ⟨hc, hl⟩ | ⟨hold, hnew, hl⟩ <;> rw [hl]
      · by_cases e : j = i
        · simp [e, hmem, hc]
        · simp [e, hmem]
      · by_cases e : j = i
        · simp [e, hnew]
        · simp [e, hmem]
    · show (g.slots.get j.val).record.changed = true ∨ (g.slots.get j.val).record.stale ≠ none ∨
        (g.slots.get j.val).record.lost ≠ none → (g.slots.get j.val).config.registered = true
      rw [hslot]
      split
      · exact fun _ => hr
      · exact harmed j
    · show (g.slots.get j.val).record.excursion ≤ _
      rw [hslot]
      split
      · exact (hx (hbound i)).2
      · exact hbound j
  · rw [hslot]
    split
    next e => rw [e] at hj ⊢; exact hx hj
    next => exact ⟨Nat.le_refl _, hj⟩
  · rw [hs, hp]; exact ⟨Table.wf_set _ _ _ h.1, h.2⟩
  · rw [hslot]
    split
    · exact ⟨(h i).1, ha (h i).2⟩
    · exact h j

theorem Keeps.of_setRecord {i : Slot} {r : ReeferRecord} (hc : r.changed = (s.slot i).record.changed)
    (hreg : s.listExact → (s.slot i).config.registered = true)
    (hx : (s.slot i).record.excursion ≤ 4294967295 →
      (s.slot i).record.excursion ≤ r.excursion ∧ r.excursion ≤ 4294967295)
    (ha : (s.slot i).record.alarms.length ≤ 4 → r.alarms.length ≤ 4) : Keeps x s (s.setRecord i r) :=
  .of_slot rfl rfl (.inl ⟨hc, rfl⟩) hreg hx ha

@[simp] theorem State.slot_setRecord_same (s : State) (i : Slot) (r : ReeferRecord) :
    (s.setRecord i r).slot i = { s.slot i with record := r } := by rw [State.slot_setRecord, if_pos rfl]

/-- A record is replaced, and its slot found changed. -/
theorem Keeps.of_markChanged_setRecord {i : Slot} {r : ReeferRecord} (hc : r.changed = (s.slot i).record.changed)
    (hreg : s.listExact → (s.slot i).config.registered = true)
    (hx : (s.slot i).record.excursion ≤ 4294967295 →
      (s.slot i).record.excursion ≤ r.excursion ∧ r.excursion ≤ 4294967295)
    (ha : (s.slot i).record.alarms.length ≤ 4 → r.alarms.length ≤ 4) :
    Keeps x s (markChanged i (s.setRecord i r)) := by
  unfold markChanged
  rw [State.slot_setRecord_same]
  split
  · exact .of_setRecord hc hreg hx ha
  · next hold =>
    refine .of_slot (i := i) (r := { r with changed := true }) ?_ rfl (.inr ⟨?_, rfl, rfl⟩) hreg hx ha
    · simp
    · simpa [← hc] using hold

theorem keeps_markChanged {i : Slot} (hreg : (s.slot i).config.registered = true) : Keeps x s (markChanged i s) := by
  unfold markChanged
  split
  · exact .refl x s
  · next hold =>
    exact .of_slot (i := i) (r := { (s.slot i).record with changed := true }) rfl rfl
      (.inr ⟨by simpa using hold, rfl, rfl⟩) (fun _ => hreg) (fun h => ⟨Nat.le_refl _, h⟩) id

/-! ### Reports (R115 to R128) -/

theorem excursion_le_accumulated (p : Profile) (now : QuayTime) {r : ReeferRecord} (h : r.excursion ≤ 4294967295) :
    r.excursion ≤ accumulated p now r ∧ accumulated p now r ≤ 4294967295 := by
  unfold accumulated
  split
  · split
    · omega
    · exact ⟨Nat.le_refl _, h⟩
  · exact ⟨Nat.le_refl _, h⟩

/-- A report read from a payload carries at most four alarm codes (R7). -/
theorem length_readReport_alarms (payload : List Byte) : (readReport payload).alarms.length ≤ 4 := by
  simp only [readReport, bytesAt, List.length_take]; omega

theorem keeps_checkNotice (i : Slot) (edges : EdgeSelect) (level : Nat) (enter leave : Event) (before after : Bool)
    (data : Option (BitVec 16)) (s : State) : Keeps x s (checkNotice i edges level enter leave before after data s) := by
  unfold checkNotice
  split
  · exact keeps_notify ..
  · split
    · exact keeps_notify ..
    · exact .refl x s

theorem keeps_reportNotices (i : Slot) (p : Profile) (before after : ReeferRecord) (s : State) :
    Keeps x s (reportNotices i p before after s) := by
  unfold reportNotices
  simp only
  have hchecks := fun t => ((keeps_checkNotice i p.highEdges p.highLevel .highEnter .highLeave before.high after.high
    (supplyWord after) s).trans (keeps_checkNotice i p.lowEdges p.lowLevel .lowEnter .lowLeave before.low after.low
    (supplyWord after) _)).trans ((keeps_checkNotice i p.powerEdges p.powerLevel .powerEnter .powerLeave
    before.powerCheck after.powerCheck (supplyWord after) _).trans (keeps_checkNotice (x := t) i p.alarmEdges
    p.alarmLevel .alarmEnter .alarmLeave before.alarmCheck after.alarmCheck (supplyWord after) _))
  split
  · exact .after (keeps_notify ..) (hchecks x)
  · exact hchecks x

theorem keeps_acceptReport {i : Slot} {rep : Report} (ha : rep.alarms.length ≤ 4)
    (hreg : (s.slot i).config.registered = true) : Keeps x s (acceptReport i rep s) := by
  have haccepted : ∀ y, Keeps y s (s.setRecord i (acceptedRecord (s.profileOf i) s.quayTime rep (s.slot i).record)) :=
    fun y => .of_setRecord rfl (fun _ => hreg) (excursion_le_accumulated _ _)
      fun _ => Nat.le_trans (List.length_filter_le ..) ha
  unfold acceptReport
  simp only
  refine .after (keeps_reportNotices ..) ?_
  split
  · refine .after (keeps_markChanged ?_) (.after (.of_registry_counts rfl rfl rfl) (haccepted x))
    show ((s.setRecord i _).slot i).config.registered = true
    rw [State.slot_setRecord_same]
    exact hreg
  · exact .after (.of_registry_counts rfl rfl rfl) (haccepted x)

theorem keeps_takeReport {i : Slot} {rep : Report} (ha : rep.alarms.length ≤ 4) (s : State) :
    Keeps x s (takeReport i rep s) := by
  have htaken : Keeps x s { s with registry := { s.registry with taken := s.registry.taken + 1 } } :=
    .of_registry_counts rfl rfl rfl
  unfold takeReport
  simp only
  split
  · exact .of_registry_counts rfl rfl rfl
  · next hreg =>
    have hreg : (s.slot i).config.registered = true := by simpa [State.slot] using hreg
    have hcount : ∀ y t r, (t : State).slot i = s.slot i → r.changed = (s.slot i).record.changed →
        r.excursion = (s.slot i).record.excursion → r.alarms = (s.slot i).record.alarms →
        Keeps y t (t.setRecord i r) := fun y t r ht hc hx hal =>
      .of_setRecord (by rw [ht, hc]) (fun _ => by rw [ht, hreg]) (fun h => by rw [hx, ← ht]; exact ⟨Nat.le_refl _, h⟩)
        (fun h => by rw [hal, ← ht]; exact h)
    refine htaken.trans ?_
    split
    · exact .after (keeps_notify ..) (.after (.of_registry_counts rfl rfl rfl) (hcount x _ _ rfl rfl rfl rfl))
    · split
      · exact .after (.of_registry_counts rfl rfl rfl) (hcount x _ _ rfl rfl rfl rfl)
      · exact keeps_acceptReport ha hreg

/-! ### Expiries (R129, R130) -/

theorem ne_none_of_due {now : QuayTime} {d : Option QuayTime} (h : due now d = true) : d ≠ none := by
  rintro rfl
  simp [due] at h

theorem keeps_staleExpiry (i : Slot) (s : State) : ∃ t, execStaleDeadlineExpiry i s = .next t ∧ Keeps x s t := by
  refine ⟨_, rfl, ?_⟩
  simp only
  split
  · next hdue =>
    have hmark : ∀ y, Keeps y s (markChanged i
        (s.setRecord i { (s.slot i).record with freshness := .stale, stale := none })) :=
      fun y => .of_markChanged_setRecord rfl (fun h => h.2.2.1 i (.inr (.inl (ne_none_of_due hdue))))
        (fun h => ⟨Nat.le_refl _, h⟩) id
    split
    · exact .after (keeps_notify ..) (hmark x)
    · exact hmark x
  · exact .refl x s

theorem keeps_lostExpiry (i : Slot) (s : State) : ∃ t, execLostDeadlineExpiry i s = .next t ∧ Keeps x s t := by
  refine ⟨_, rfl, ?_⟩
  simp only
  split
  · next hdue =>
    exact .after (keeps_notify ..) (.of_markChanged_setRecord rfl
      (fun h => h.2.2.1 i (.inr (.inr (ne_none_of_due hdue)))) (fun h => ⟨Nat.le_refl _, h⟩) id)
  · exact .refl x s

/-! ### Summaries (R143 to R146) -/

/-- A slot after it is summarised. -/
def ReeferSlot.summarise (v : ReeferSlot) : ReeferSlot := { v with record := v.record.summarise }

/-- Summarising the slots of a list changes the slots alone, each slot of the list once. -/
theorem foldl_summarise (l : List Slot) (s : State) :
    ∃ slots, l.foldl (fun s i => s.setRecord i (s.slot i).record.summarise) s =
        { s with registry := { s.registry with slots := slots } } ∧
      (s.registry.slots.wf = true → slots.wf = true) ∧
      ∀ i : Slot, slots.get i.val = if i ∈ l then (s.slot i).summarise else s.slot i := by
  induction l generalizing s with
  | nil => exact ⟨_, rfl, id, fun _ => rfl⟩
  | cons j l ih =>
    obtain ⟨slots, hs, hw, hget⟩ := ih (s.setRecord j (s.slot j).record.summarise)
    refine ⟨slots, hs, fun h => hw (Table.wf_set _ _ _ h), fun i => ?_⟩
    rw [hget, State.slot_setRecord]
    by_cases hj : i = j <;> by_cases hi : i ∈ l <;> simp [hj, hi, ReeferSlot.summarise, ReeferRecord.summarise]

theorem keeps_summariseSlots (s : State) : Keeps x s (summariseSlots s) := by
  obtain ⟨slots, hs, hw, hget⟩ := foldl_summarise (s.registry.changeList.take 24) s
  unfold summariseSlots
  simp only [hs]
  have hfields : ∀ i : Slot, (slots.get i.val).config = (s.slot i).config ∧
      (slots.get i.val).record.excursion = (s.slot i).record.excursion ∧
      (slots.get i.val).record.alarms = (s.slot i).record.alarms ∧
      (slots.get i.val).record.stale = (s.slot i).record.stale ∧
      (slots.get i.val).record.lost = (s.slot i).record.lost := fun i => by
    rw [hget]
    split <;> exact ⟨rfl, rfl, rfl, rfl, rfl⟩
  refine .of_registry (fun ⟨hnodup, hmem, harmed, hbound⟩ => ?_) (fun i _ h => ?_) (fun h => ⟨hw h.1, h.2⟩)
    fun _ h i => ?_
  · have hsplit := List.take_append_drop 24 s.registry.changeList
    have hdis : ∀ i, i ∈ s.registry.changeList.take 24 → i ∉ s.registry.changeList.drop 24 := by
      have hd := hsplit ▸ hnodup
      rw [hsplit, ← hsplit] at hd
      exact fun i h1 h2 => (List.nodup_append.1 hd).2.2 i h1 i h2 rfl
    have hchanged : ∀ i : Slot, (slots.get i.val).record.changed = true ↔
        (s.slot i).record.changed = true ∧ i ∉ s.registry.changeList.take 24 := fun i => by
      rw [hget]
      split
      next h => simp [ReeferSlot.summarise, ReeferRecord.summarise, h]
      next h => simp [h]
    refine ⟨hnodup.sublist (List.drop_sublist 24 _), fun i => ?_, fun i => ?_, fun i => ?_⟩
    · show i ∈ s.registry.changeList.drop 24 ↔ (slots.get i.val).record.changed = true
      have hparts : i ∈ s.registry.changeList ↔ i ∈ s.registry.changeList.take 24 ∨ i ∈ s.registry.changeList.drop 24 := by
        rw [← List.mem_append, hsplit]
      rw [hchanged, ← hmem, hparts]
      exact ⟨fun h => ⟨.inr h, fun h' => hdis i h' h⟩, fun ⟨h, hn⟩ => h.resolve_left hn⟩
    · show (slots.get i.val).record.changed = true ∨ (slots.get i.val).record.stale ≠ none ∨
        (slots.get i.val).record.lost ≠ none → (slots.get i.val).config.registered = true
      obtain ⟨h1, -, -, h2, h3⟩ := hfields i
      rw [h1, h2, h3, hchanged]
      exact fun h => harmed i (h.imp_left And.left)
    · show (slots.get i.val).record.excursion ≤ _
      rw [(hfields i).2.1]
      exact hbound i
  · rw [(hfields i).2.1]
    exact ⟨Nat.le_refl _, h⟩
  · obtain ⟨h1, -, h2, -⟩ := hfields i
    have hi := h i
    unfold ReeferSlot.sizes at hi ⊢
    rw [h1, h2]
    exact hi

theorem keeps_sendSummary (s : State) : Keeps x s (sendSummary s) := by
  have hoffer : ∀ f, Keeps x s (s.offer .y 3 none .summary f).2 := fun f =>
    .of_offer f fun _ => s.mayWait_composed _ _ (by simp) (by simp)
  unfold sendSummary
  simp only
  split
  · exact .after (.of_summary _) (.after (keeps_summariseSlots _) (hoffer _))
  · exact .after (.of_summary _) (hoffer _)

theorem keeps_stepPass (s : State) : Keeps x s (stepPass s) := by
  unfold stepPass
  simp only
  split
  · exact .of_summary _
  · split
    · exact .of_summary _
    · split
      · exact .of_summary _
      · exact keeps_sendSummary s

theorem keeps_summaryTimer (s : State) : ∃ t, execSummaryTimerExpiry s = .next t ∧ Keeps x s t := by
  refine ⟨_, rfl, ?_⟩
  split
  · have hrearm : ∀ y, Keeps y s (rearmSummary s) := fun y => .of_summary _
    simp only
    split
    · exact .after (.of_summary _) (hrearm x)
    · split
      · exact hrearm x
      · exact .after (keeps_stepPass _) (.after (.of_summary _) (hrearm x))
  · exact .refl x s

end Sys2Proof.Machine

/-! PROOFS. What the operations on crane links keep (chapters 3 and 4). -/

namespace Sys2Proof.Machine

variable {x : Licence} {s : State} {l : Link} {k : CraneLink}

/-! ### What each change of a link's record keeps of it -/

theorem CraneLink.not_isHeld_of_working (h : k.state = .arming ∨ k.state = .live ∨ k.state = .degraded) :
    ¬ k.isHeld := by
  unfold CraneLink.isHeld
  rcases h with h | h | h <;> simp [h]

theorem CraneLink.isHeld.ne_idle (h : k.isHeld) : k.state ≠ .idle := by
  rcases h with h | h <;> simp [h]

/-- A change that leaves state and sets alone keeps what legality it keeps. -/
theorem LinkKeeps.of_legal {v : CraneLink} (hl : k.legal → v.legal) (hs : v.state = k.state)
    (hc : v.config = k.config) (hr : v.resolved = k.resolved) (hp : v.previous = k.previous) : LinkKeeps x l k v where
  legal _ := hl
  held _ h := by
    unfold CraneLink.isHeld at h ⊢
    rwa [hs]
  sizes _ h := by
    unfold CraneLink.sizes at h ⊢
    rwa [hc, hr, hp]

/-- A link that was not held keeps no more than legality and sizes. -/
theorem LinkKeeps.of_free {v : CraneLink} (hl : k.legal → v.legal) (hk : ¬ k.isHeld)
    (hz : k.sizes → v.sizes) : LinkKeeps x l k v :=
  ⟨fun _ => hl, fun _ h => absurd h hk, fun _ => hz⟩

theorem LinkKeeps.expired {next : Option QuayTime} {dir : Direction} (hi : k.state = .idle → next = none)
    (hd : dir = .down → k.isHeld → next = none) : LinkKeeps x l k (k.expired next dir) := by
  cases dir
  case up =>
    refine .of_legal (fun h => ?_) rfl rfl rfl rfl
    obtain ⟨h1, h2, h3, h4, h5, h6, h7, h8⟩ := h
    exact ⟨h1, h2, h3, h4, h5, h6, fun e => ⟨hi e, (h7 e).2.1, rfl, (h7 e).2.2.2⟩, h8⟩
  case down =>
    refine .of_legal (fun h => ?_) rfl rfl rfl rfl
    obtain ⟨h1, h2, h3, h4, h5, h6, h7, h8⟩ := h
    exact ⟨h1, h2, h3, h4, h5, fun e => ⟨hd rfl e, (h6 e).2⟩,
      fun e => ⟨(h7 e).1, hi e, (h7 e).2.2⟩, h8⟩

theorem CraneLink.legal.degrade (h : k.legal) (hs : k.state = .live) :
    ({ k with state := .degraded } : CraneLink).legal := by
  simp only [CraneLink.legal, CraneLink.isHeld, CraneLink.isWorking, hs] at h ⊢
  simp_all

theorem CraneLink.legal.toLive (h : k.legal) (hs : k.state = .arming ∨ k.state = .degraded) :
    ({ k with state := .live, missed := 0, streak := 0 } : CraneLink).legal := by
  simp only [CraneLink.legal, CraneLink.isHeld, CraneLink.isWorking] at h ⊢
  rcases hs with hs | hs <;> simp_all

theorem CraneLink.legal.returned (h : k.legal) (hs : k.state = .releasing) : k.returned.legal := by
  simp only [CraneLink.legal, CraneLink.isHeld, CraneLink.isWorking, CraneLink.returned, hs] at h ⊢
  simp_all

theorem CraneLink.legal.openRelease (h : k.legal) (hs : k.isHeld) (now : QuayTime) : (k.openRelease now).legal := by
  simp only [CraneLink.legal, CraneLink.isHeld, CraneLink.isWorking, CraneLink.openRelease] at h hs ⊢
  rcases hs with hs | hs <;> simp_all

theorem CraneLink.legal.release (h : k.legal) (hs : k.state = .releasing) (now : QuayTime) : (k.release now).legal := by
  simp only [CraneLink.legal, CraneLink.isHeld, CraneLink.isWorking, CraneLink.release, hs] at h ⊢
  simp_all

theorem CraneLink.legal.reloaded (h : k.legal) (hs : k.state ≠ .idle) (now : QuayTime) {dir : Direction}
    (hd : dir = .down → ¬ k.isHeld) : (k.reloaded now dir).legal := by
  obtain ⟨h1, h2, h3, h4, h5, h6, h7, h8⟩ := h
  cases dir
  case up => exact ⟨h1, h2, h3, h4, h5, h6, fun e => absurd e hs, h8⟩
  case down => exact ⟨h1, h2, h3, h4, h5, fun e => absurd e (hd rfl), fun e => absurd e hs, h8⟩

@[simp] theorem CraneLink.reloaded_state (k : CraneLink) (now : QuayTime) (dir : Direction) :
    (k.reloaded now dir).state = k.state := by cases dir <;> rfl

/-- An accepted frame leaves a working or arming link out of HOLD, and a held link held. -/
theorem CraneLink.legal.accepted (h : k.legal) (hs : k.state ≠ .idle) (now : QuayTime) (dir : Direction) :
    (k.accepted now dir).legal := by
  have hfree : ∀ {c}, k.state = c → c ≠ .hold → c ≠ .releasing → ¬ k.isHeld := by
    rintro _ rfl h1 h2 (h3 | h3)
    · exact h1 h3
    · exact h2 h3
  unfold CraneLink.accepted
  split
  case h_1 => exact h
  case h_2 e =>
    have hr : (k.reloaded now dir).legal := h.reloaded hs now fun _ => hfree e (by decide) (by decide)
    simp only
    split
    · exact hr.toLive (.inl (by simpa using e))
    · exact hr
  case h_3 e => exact h.reloaded hs now fun _ => hfree e (by decide) (by decide)
  case h_4 e =>
    have hr : ({ k.reloaded now dir with streak := k.streak + 1 } : CraneLink).legal :=
      h.reloaded hs now fun _ => hfree e (by decide) (by decide)
    simp only
    split
    · exact hr.toLive (.inr (by simpa using e))
    · exact hr
  all_goals
    split
    · exact h.reloaded hs now (by simp)
    · exact h

/-- What an accepted frame leaves of a link's fields, and that it holds no link and releases none. -/
theorem CraneLink.accepted_fields (k : CraneLink) (now : QuayTime) (dir : Direction) :
    (k.accepted now dir).config = k.config ∧ (k.accepted now dir).resolved = k.resolved ∧
    (k.accepted now dir).previous = k.previous ∧ ((k.accepted now dir).isHeld ↔ k.isHeld) ∧
    ((k.accepted now dir).state = .idle ↔ k.state = .idle) := by
  have hreload : ∀ d, (k.reloaded now d).config = k.config ∧ (k.reloaded now d).resolved = k.resolved ∧
      (k.reloaded now d).previous = k.previous := fun d => by cases d <;> exact ⟨rfl, rfl, rfl⟩
  obtain ⟨h1, h2, h3⟩ := hreload dir
  unfold CraneLink.accepted
  split
  case h_1 => simp
  case h_2 e =>
    simp only
    split <;> simp [CraneLink.isHeld, e, h1, h2, h3]
  case h_3 e => simp [CraneLink.isHeld, h1, h2, h3]
  case h_4 e =>
    simp only
    split <;> simp [CraneLink.isHeld, e, h1, h2, h3]
  all_goals
    obtain ⟨h1, h2, h3⟩ := hreload .up
    split <;> simp [CraneLink.isHeld, h1, h2, h3]

theorem CraneLink.legal.resolvedTo (h : k.legal) (hs : k.state ≠ .idle) (hh : ¬ k.isHeld) (now : QuayTime)
    (result : List Cell) (poor : Option Bool) : (k.resolvedTo now result poor).legal := by
  have hfields : ∀ v : CraneLink, v.config = k.config → v.state = k.state → v.commitPending = k.commitPending →
      v.reason = k.reason → v.releaseExpiry = k.releaseExpiry → v.nextHold = k.nextHold →
      (v.overlapExpiry.isSome = true ↔ v.previous ≠ []) → v.legal := by
    intro v e1 e2 e3 e4 e5 e6 h8
    obtain ⟨h1, h2, h3, h4, h5, -, -, -⟩ := h
    unfold CraneLink.isWorking at h2
    unfold CraneLink.isHeld at h3 h5 hh
    unfold CraneLink.legal CraneLink.isHeld CraneLink.isWorking
    rw [e1, e2, e3, e4, e5, e6]
    exact ⟨h1, h2, h3, h4, h5, fun e => absurd e hh, fun e => absurd e hs, h8⟩
  have h8 := h.2.2.2.2.2.2.2
  unfold CraneLink.resolvedTo
  simp only
  split
  · exact hfields _ rfl rfl rfl rfl rfl rfl h8
  · split
    · exact hfields _ rfl rfl rfl rfl rfl rfl h8
    · refine hfields _ rfl rfl rfl rfl rfl rfl ?_
      simp only [CraneLink.changeSet]
      split
      next hopen =>
        simp only [Option.isSome_some, true_iff]
        simp only [Bool.and_eq_true, Bool.not_eq_true', List.isEmpty_eq_false_iff] at hopen
        exact hopen.2
      next => simp

theorem CraneLink.resolvedTo_fields (k : CraneLink) (now : QuayTime) (result : List Cell) (poor : Option Bool) :
    (k.resolvedTo now result poor).config = k.config ∧ (k.resolvedTo now result poor).state = k.state := by
  unfold CraneLink.resolvedTo
  simp only
  split
  · exact ⟨rfl, rfl⟩
  · split <;> exact ⟨rfl, rfl⟩

theorem CraneLink.sizes.resolvedTo (h : k.sizes) {result : List Cell} (hr : result.length ≤ 2) (now : QuayTime)
    (poor : Option Bool) : (k.resolvedTo now result poor).sizes := by
  obtain ⟨h1, h2, h3⟩ := h
  unfold CraneLink.resolvedTo
  simp only
  split
  · exact ⟨h1, h2, h3⟩
  · split
    · exact ⟨h1, hr, h3⟩
    · refine ⟨h1, hr, ?_⟩
      simp only [CraneLink.changeSet]
      split
      · exact h2
      · simp

/-! ### Commits (R80) -/

theorem wf_copyRange (source target : Table PathEntry) (first n : Nat) (h : target.wf = true) :
    (copyRange source target first n).wf = true := by
  induction n generalizing target first with
  | zero => exact h
  | succ n ih => exact ih _ _ (Table.wf_set _ _ _ h)

/-- A link's record without a pending commit. -/
def CraneLink.committed (k : CraneLink) : CraneLink := { k with commitPending := false }

theorem LinkKeeps.committed : LinkKeeps x l k k.committed := by
  refine .of_legal (fun h => ?_) rfl rfl rfl rfl
  obtain ⟨h1, -, h3⟩ := h
  exact ⟨h1, fun e => by simp [CraneLink.committed] at e, h3⟩

/-- The path tables after a commit of a link. -/
@[irreducible] def Paths.commit (v : Paths) (l : Link) : Paths :=
  { v with active := copyRange v.staged v.active (l.val * 64) 64 }

theorem Paths.commit_eq (v : Paths) (l : Link) :
    v.commit l = { v with active := copyRange v.staged v.active (l.val * 64) 64 } := by
  unfold Paths.commit; rfl

/-- A commit is applied to a link's record and to the path tables. -/
theorem applyCommit_eq (l : Link) (s : State) :
    applyCommit l s = ({ s with paths := s.paths.commit l } : State).setLink l (s.link l).committed := by
  rw [Paths.commit_eq]; rfl

theorem keeps_applyCommit (l : Link) (s : State) : Keeps x s (applyCommit l s) := by
  rw [applyCommit_eq]
  refine .after (.of_setLink_same LinkKeeps.committed rfl rfl) (.of_paths (.inl ?_) fun hc => ?_)
  · rw [Paths.commit_eq]
  · obtain ⟨-, -, -, -, -, -, -, hg, hst, ha, -⟩ := hc
    rw [Paths.commit_eq]
    exact ⟨hg, hst, wf_copyRange _ _ _ _ ha⟩

theorem keeps_applyPending (l : Link) (s : State) : Keeps x s (applyPending l s) := by
  unfold applyPending
  split
  · exact keeps_applyCommit l s
  · exact .refl x s

@[simp] theorem applyCommit_link (l m : Link) (s : State) :
    (applyCommit l s).link m = if m = l then (s.link l).committed else s.link m := by
  rw [applyCommit_eq, State.link_setLink]; rfl

/-- Whether or not a commit was pending, none is left, and no other link is touched. -/
theorem applyPending_link (l m : Link) (s : State) :
    (applyPending l s).link m = if m = l then (s.link l).committed else s.link m := by
  unfold applyPending
  split
  · exact applyCommit_link l m s
  · next h =>
    split
    next e =>
      subst e
      have hp : (s.link m).commitPending = false := by simpa using h
      rw [CraneLink.committed, ← hp]
    next => rfl

/-! ### Hold orders (R63 to R66) -/

theorem keeps_holdAttempt (l : Link) (s : State) : Keeps x s (holdAttempt l s) := by
  have hdefer : ∀ k, LinkKeeps x l k k.defer := fun k => .of_fields rfl rfl rfl rfl rfl rfl rfl rfl rfl rfl rfl rfl
  have horder : ∀ k, LinkKeeps x l k k.ordered := fun k => .of_fields rfl rfl rfl rfl rfl rfl rfl rfl rfl rfl rfl rfl
  unfold holdAttempt
  simp only
  split
  · exact .of_setLink_same (hdefer _) rfl rfl
  · obtain ⟨st, hst, -⟩ := offerOnCells_storeKeeps (may := fun _ _ _ => True) (o := .holdOrder) (fun _ => trivial)
      (holdOrder s.identity s.bearerType s.quayTime (s.link l) (s.link l).holdSequence ((s.link l).holdCounter + 1))
      (s.holdTargets l) s
    have hlink : (offerOnCells .holdOrder (holdOrder s.identity s.bearerType s.quayTime (s.link l)
        (s.link l).holdSequence ((s.link l).holdCounter + 1)) (s.holdTargets l) s).2.link l = s.link l := by
      rw [hst]; rfl
    refine .after (.of_setLink_same ?_ ?_ ?_)
      (keeps_offerOnCells _ _ s fun _ _ => s.mayWait_composed _ _ (by simp) (by simp)) <;> rw [hlink] <;> split
    · exact horder _
    · exact hdefer _
    all_goals rfl

/-- A hold order attempt touches its own link alone, and of that no field a law speaks of. -/
theorem holdAttempt_link (l m : Link) (s : State) :
    (holdAttempt l s).link m = if m = l then (holdAttempt l s).link l else s.link m := by
  obtain ⟨st, k, h⟩ := holdAttempt_frame l s
  rw [h, State.link_setLink, State.link_setLink, if_pos rfl]
  rfl

theorem holdAttempt_link_cases (l : Link) (s : State) :
    (holdAttempt l s).link l = (s.link l).defer ∨ (holdAttempt l s).link l = (s.link l).ordered := by
  unfold holdAttempt
  simp only
  split
  · exact .inl (by rw [State.link_setLink, if_pos rfl])
  · rw [State.link_setLink, if_pos rfl]
    split
    · exact .inr rfl
    · exact .inl rfl

/-! ### Entry to HOLD (R58, R59) -/

theorem State.link_notify (s : State) (ev : Event) (i level : Nat) (data : Option (BitVec 16)) (l : Link) :
    (s.notify ev i level data).link l = s.link l := by
  obtain ⟨-, -, -, -, -, h, -⟩ := (s.agrees_notify ev i level data).fields
  rw [State.link, h]; rfl

@[simp] theorem State.setLink_setLink (s : State) (l : Link) (v w : CraneLink) :
    (s.setLink l v).setLink l w = s.setLink l w := by simp [State.setLink]

theorem State.link_of_links {s t : State} (h : t.links = s.links) (l : Link) : t.link l = s.link l := by
  rw [State.link, h]; rfl

/-- The link that has entered HOLD, before its notice and its first hold order (R58, R59, R80, R89). -/
def CraneLink.entered (k : CraneLink) (reason : HoldReason) : CraneLink :=
  { k with
    state := .hold, reason := reason, downDeadline := none, streak := 0, releaseExpiry := none, commitPending := false
    previous := [], overlapExpiry := none
    counts := { k.counts with holdsEntered := bump16 k.counts.holdsEntered } }

/-- The state before the notice and the first hold order of an entry to HOLD: the link has entered, its frames are
withdrawn and its pending commit is applied. -/
def State.holdBegun (s : State) (l : Link) (reason : HoldReason) : State :=
  ({ s with
    store := s.store.withdraw (s.link l).config.bearer
    paths := if (s.link l).commitPending then s.paths.commit l else s.paths } : State).setLink l
      ((s.link l).entered reason)

theorem State.holdBegun_link (s : State) (l m : Link) (reason : HoldReason) :
    (s.holdBegun l reason).link m = if m = l then (s.link l).entered reason else s.link m := by
  rw [State.holdBegun, State.link_setLink]
  split
  · rfl
  · exact State.link_of_links (s := s) (by rfl) m

theorem applyPending_setLink (l : Link) (s : State) (v : CraneLink) :
    (applyPending l s).setLink l v =
      ({ s with paths := if (s.link l).commitPending then s.paths.commit l else s.paths } : State).setLink l v := by
  unfold applyPending
  split
  · rw [applyCommit_eq, State.setLink_setLink]
  · rfl

/-- The first stages of an entry to HOLD, as the model takes them, lead there. -/
theorem holdBegun_eq (l : Link) (reason : HoldReason) (s : State) {t : State}
    (ht : t = applyPending l { s.setLink l ((s.link l).held reason) with
      store := s.store.withdraw (s.link l).config.bearer }) :
    t.setLink l { (t.link l).endWindow with
      counts := { (t.link l).endWindow.counts with holdsEntered := bump16 (t.link l).endWindow.counts.holdsEntered } } =
      s.holdBegun l reason := by
  unfold State.holdBegun
  generalize s.store.withdraw (s.link l).config.bearer = st at ht ⊢
  have hlink : ({ s.setLink l ((s.link l).held reason) with store := st } : State).link l = (s.link l).held reason := by
    refine (State.link_of_links (s := s.setLink l ((s.link l).held reason)) (by rfl) l).trans ?_
    rw [State.link_setLink, if_pos rfl]
  subst ht
  rw [applyPending_setLink, applyPending_link, if_pos rfl, hlink]
  exact State.setLink_setLink { s with
    store := st, paths := if (s.link l).commitPending then s.paths.commit l else s.paths } l _ _

@[simp] theorem State.notify_quayTime (s : State) (ev : Event) (i level : Nat) (data : Option (BitVec 16)) :
    (s.notify ev i level data).quayTime = s.quayTime := (s.agrees_notify ev i level data).fields.1

theorem holdAttempt_quayTime (l : Link) (s : State) : (holdAttempt l s).quayTime = s.quayTime := by
  obtain ⟨st, v, h⟩ := holdAttempt_frame l s
  rw [h, State.setLink_quayTime]

/-- Entry to HOLD: the link enters, the notice is offered, the first hold order attempted and the next armed. -/
theorem enterHold_eq (l : Link) (reason : HoldReason) (s : State) {noticed : State}
    (hn : noticed = (s.holdBegun l reason).notify (if reason = .managed then .holdManaged else .holdDeadline) l.val
      (s.link l).config.holdLevel (segmentWord (s.link l).segment)) :
    enterHold l reason s = (holdAttempt l noticed).setLink l
      { (holdAttempt l noticed).link l with nextHold := some (later s.quayTime (s.link l).config.period) } := by
  have htime : (holdAttempt l noticed).quayTime = s.quayTime := by
    rw [holdAttempt_quayTime, hn, State.notify_quayTime, State.holdBegun, State.setLink_quayTime]
  unfold enterHold
  simp only [State.link_setLink, if_true]
  generalize ht : applyPending l _ = t
  have hbegun := holdBegun_eq l reason s ht.symm
  have hlink : (t.link l).endWindow.config = (s.link l).config ∧ (t.link l).endWindow.segment = (s.link l).segment := by
    have h : t.link l = ((s.link l).held reason).committed := by
      rw [← ht, applyPending_link, if_pos rfl]
      refine congrArg CraneLink.committed
        ((State.link_of_links (s := s.setLink l ((s.link l).held reason)) (by rfl) l).trans ?_)
      rw [State.link_setLink, if_pos rfl]
    rw [h]; exact ⟨rfl, rfl⟩
  simp only at hbegun
  rw [hbegun, hlink.1, hlink.2, ← hn, htime]

/-- The link that has entered HOLD, its first hold order sent or deferred. -/
theorem enterHold_link (l : Link) (reason : HoldReason) (s : State) :
    ∃ v, (v = ((s.link l).entered reason).defer ∨ v = ((s.link l).entered reason).ordered) ∧
      (enterHold l reason s).link l = { v with nextHold := some (later s.quayTime (s.link l).config.period) } := by
  rw [enterHold_eq l reason s rfl, State.link_setLink, if_pos rfl]
  refine ⟨_, ?_, rfl⟩
  have h := holdAttempt_link_cases l ((s.holdBegun l reason).notify
    (if reason = .managed then .holdManaged else .holdDeadline) l.val (s.link l).config.holdLevel
    (segmentWord (s.link l).segment))
  rwa [State.link_notify, State.holdBegun_link, if_pos rfl] at h

theorem enterHold_link_other {l m : Link} (h : m ≠ l) (reason : HoldReason) (s : State) :
    (enterHold l reason s).link m = s.link m := by
  rw [enterHold_eq l reason s rfl, State.link_setLink, if_neg h, holdAttempt_link, if_neg h, State.link_notify,
    State.holdBegun_link, if_neg h]

/-- No received frame of a bearer is left on a quay port after its withdrawal. -/
theorem FrameStore.mem_queue_withdraw {st : FrameStore} {b : BitVec 12} {p : Port} {c : Class} {e : QueueEntry}
    (h : e ∈ ((st.withdraw b).queue p c).entries) (hp : p ≠ .y) (r : Classification)
    (ho : e.origin = .control r ∨ e.origin = .forwarded r) : r.bearer ≠ b := by
  rw [FrameStore.queue_withdraw, if_neg hp, Queue.without] at h
  obtain ⟨-, hf⟩ := List.mem_filter.1 h
  rintro rfl
  rcases ho with ho | ho <;> simp [isFrameOf, ho] at hf

/-- A licence under which a link's record is in the middle of a change. -/
def Licence.rewriting (x : Licence) (l : Link) : Licence := { x with rewrites := fun m => m = l ∨ x.rewrites m }

theorem Keeps.finish_rewriting {t : State} (h : Keeps (x.rewriting l) s t)
    (hl : ¬ x.rewrites l → (s.link l).legal → (t.link l).legal) : Keeps x s t :=
  h.finish id (fun _ => id) (fun _ => id) (fun _ => id) hl

/-- In the middle of a change of a link's record, a change that keeps its state and configuration and opens no
window. -/
theorem Keeps.of_setLink_rewriting {v : CraneLink} (h1 : v.state = (s.link l).state) (h2 : v.config = (s.link l).config)
    (h3 : v.resolved = (s.link l).resolved) (h4 : v.previous = (s.link l).previous) :
    Keeps (x.rewriting l) s (s.setLink l v) := by
  refine .of_setLink_same ⟨fun h => absurd (.inl rfl) h, fun _ h => ?_, fun _ h => ?_⟩ h1 (by rw [h2])
  · unfold CraneLink.isHeld at h ⊢; rwa [h1]
  · unfold CraneLink.sizes at h ⊢; rwa [h2, h3, h4]

theorem keeps_holdBegun {reason : HoldReason} (hs : (s.link l).state ≠ .idle) :
    Keeps (x.rewriting l) s (s.holdBegun l reason) := by
  have hwithdraw : Keeps (x.rewriting l) s { s with store := s.store.withdraw (s.link l).config.bearer } :=
    .of_store (.withdraw ..) fun p => by rw [FrameStore.port_withdraw]
  have hleft := @FrameStore.mem_queue_withdraw s.store (s.link l).config.bearer
  unfold State.holdBegun
  generalize s.store.withdraw (s.link l).config.bearer = st at hwithdraw hleft ⊢
  have hcommit : Keeps (x.rewriting l) { s with store := st } { s with
      store := st, paths := if (s.link l).commitPending then s.paths.commit l else s.paths } := by
    refine .of_paths (.inl ?_) fun hc => ?_
    · split
      · rw [Paths.commit_eq]
      · rfl
    · obtain ⟨-, -, -, -, -, -, -, hg, hst, ha, -⟩ := hc
      split
      · rw [Paths.commit_eq]
        exact ⟨hg, hst, wf_copyRange _ _ _ _ ha⟩
      · exact ⟨hg, hst, ha⟩
  refine .after (.of_setLink ⟨fun h => absurd (.inl rfl) h, fun _ _ => .inl rfl, fun _ h => ⟨h.1, h.2.1, by
    simp [CraneLink.entered]⟩⟩ ?_) (hwithdraw.trans hcommit)
  rintro ⟨h1, h2, h3⟩
  refine ⟨fun m => ?_, h2, fun m => ?_⟩
  · rw [State.link_setLink]
    split
    next e => subst e; exact fun _ => h1 m hs
    next => exact h1 m
  · rw [State.link_setLink]
    split
    next e => exact fun _ p c hp e he r ho => hleft he hp r ho
    next => exact h3 m

theorem keeps_enterHold {reason : HoldReason} (hr : reason ≠ .none) (hs : (s.link l).state ≠ .idle) :
    Keeps x s (enterHold l reason s) := by
  refine Keeps.finish_rewriting (l := l) ?_ fun _ h => ?_
  · rw [enterHold_eq l reason s rfl]
    exact .after (.of_setLink_rewriting rfl rfl rfl rfl) (.after (keeps_holdAttempt _ _) (.after (keeps_notify ..)
      (keeps_holdBegun hs)))
  · obtain ⟨v, hv, hlink⟩ := enterHold_link l reason s
    rw [hlink]
    have hen := h.1.2 hs
    rcases hv with rfl | rfl <;>
      simp [CraneLink.legal, CraneLink.isHeld, CraneLink.isWorking, CraneLink.defer, CraneLink.ordered,
        CraneLink.entered, hen, hr]

end Sys2Proof.Machine

/-! PROOFS. What the expiries and frames of a crane link keep (chapters 3 and 4). -/

namespace Sys2Proof.Machine

variable {x : Licence} {s : State} {l : Link} {k : CraneLink}

/-! ### Expiries (R53, R55, R60, R63, R69, R89) -/

theorem keeps_setLink_free {v : CraneLink} (hl : (s.link l).legal → v.legal) (hk : ¬ (s.link l).isHeld)
    (hz : (s.link l).sizes → v.sizes) (hi : (s.link l).state ≠ .idle) (hb : v.config.bearer = (s.link l).config.bearer)
    (hv : ¬ v.isHeld) : Keeps x s (s.setLink l v) :=
  .of_setLink (.of_free hl hk hz) fun h => h.of_setLink (fun _ => ⟨hi, hb⟩) fun h => absurd h hv

theorem keeps_missDeadline {dir : Direction} (d : QuayTime) (hs : (s.link l).isWorking) :
    Keeps x s (missDeadline l dir d s) := by
  have hfree : ¬ (s.link l).isHeld := CraneLink.not_isHeld_of_working (.inr hs)
  have hidle : (s.link l).state ≠ .idle := by rcases hs with h | h <;> rw [h] <;> decide
  have hstate : ∀ n m, ({ (s.link l).expired n dir with missed := m, streak := 0 } : CraneLink).state = (s.link l).state :=
    fun n m => by cases dir <;> rfl
  have hlink : ∀ n m y, LinkKeeps y l (s.link l) { (s.link l).expired n dir with missed := m, streak := 0 } :=
    fun n m y => by
      have h : LinkKeeps y l (s.link l) ((s.link l).expired n dir) :=
        .expired (fun h => absurd h hidle) fun _ h => absurd h hfree
      exact ⟨h.legal, h.held, h.sizes⟩
  have hset : ∀ n m y, Keeps y s (s.setLink l { (s.link l).expired n dir with missed := m, streak := 0 }) :=
    fun n m y => .of_setLink_same (hlink n m y) (hstate n m) (by cases dir <;> rfl)
  unfold missDeadline
  simp only
  split
  · refine .after (keeps_enterHold (by decide) ?_) (hset _ _ x)
    rw [State.link_setLink, if_pos rfl, hstate]
    exact hidle
  · split
    · next hlive =>
      have hlink : ∀ v : CraneLink, (s.setLink l v).link l = v := fun v => by rw [State.link_setLink, if_pos rfl]
      refine .after (keeps_notify ..) (.after (keeps_setLink_free ?_ ?_ ?_ ?_ ?_
        (CraneLink.not_isHeld_of_working (.inr (.inr rfl)))) (hset _ _ x)) <;> rw [hlink]
      · exact fun h => h.degrade hlive
      · exact CraneLink.not_isHeld_of_working (.inr (.inl hlive))
      · exact id
      · rw [hlive]; decide
    · exact hset _ _ x

theorem keeps_expireDeadline (dir : Direction) (d : QuayTime) (s : State) :
    Keeps x s (expireDeadline l dir d s) := by
  have hset : ∀ {next dir}, ((s.link l).state = .idle → next = none) →
      (dir = .down → (s.link l).isHeld → next = none) → Keeps x s (s.setLink l ((s.link l).expired next dir)) :=
    fun {next dir} hi hd => .of_setLink_same (.expired hi hd) (by cases dir <;> rfl) (by cases dir <;> rfl)
  unfold expireDeadline
  simp only
  split
  case h_1 => exact hset (fun _ => rfl) fun _ _ => rfl
  case h_2 h =>
    exact hset (fun e => absurd (h ▸ e) (by decide)) fun _ e => absurd e (CraneLink.not_isHeld_of_working (.inl h))
  case h_3 h => exact keeps_missDeadline d (.inl h)
  case h_4 h => exact keeps_missDeadline d (.inr h)
  case h_5 h => exact hset (fun e => absurd (h ▸ e) (by decide)) fun e => by cases e
  case h_6 h => exact hset (fun _ => rfl) fun _ _ => rfl
  case h_7 h =>
    have he : ∀ n, ((s.link l).expired n .up).state = .releasing := fun _ => h
    refine .of_setLink ⟨fun _ hl => CraneLink.legal.returned (k := (s.link l).expired _ .up)
      ((LinkKeeps.expired (x := x) (fun e => absurd (h ▸ e) (by decide)) fun e => by cases e).legal (by assumption) hl) h,
      fun _ _ => .inl rfl, fun _ => id⟩ fun hq => hq.of_setLink (fun _ => ⟨by rw [h]; decide, rfl⟩) fun _ => .inr h
  case h_8 h => exact hset (fun _ => rfl) fun _ _ => rfl

theorem keeps_deadlineExpiry (l : Link) (dir : Direction) (s : State) :
    ∃ t, execDeadlineExpiry l dir s = .next t ∧ Keeps x s t := by
  refine ⟨_, rfl, ?_⟩
  split
  · exact .refl x s
  · split
    · exact keeps_expireDeadline ..
    · exact .refl x s

/-- A link in RELEASING returns to HOLD. -/
theorem keeps_returned {reason : HoldReason} (hr : reason ≠ .none ∨ reason = (s.link l).reason)
    (hs : (s.link l).state = .releasing) :
    Keeps x s (s.setLink l { (s.link l).returned with reason := reason }) := by
  refine .of_setLink ⟨fun _ h => ?_, fun _ _ => .inl rfl, fun _ => id⟩ fun hq =>
    hq.of_setLink (fun _ => ⟨by rw [hs]; decide, rfl⟩) fun _ => .inr hs
  have hret := h.returned hs
  obtain ⟨h1, h2, h3, h4⟩ := hret
  refine ⟨h1, h2, ?_, h4⟩
  have hne : reason ≠ .none := hr.elim id fun e => e ▸ h.2.2.1.2 (.inr hs)
  exact ⟨fun _ => .inl rfl, fun _ => hne⟩

theorem keeps_releaseExpiry (l : Link) (s : State) : ∃ t, execReleaseExpiry l s = .next t ∧ Keeps x s t := by
  refine ⟨_, rfl, ?_⟩
  split
  · split
    · next h => exact keeps_returned (.inr rfl) h
    · next h =>
      refine .of_setLink_same (.of_legal (fun hl => ?_) rfl rfl rfl rfl) rfl rfl
      obtain ⟨h1, h2, h3, h4, h5⟩ := hl
      exact ⟨h1, h2, h3, ⟨fun e => by simp at e, fun e => absurd e h⟩, h5⟩
  · exact .refl x s

theorem keeps_holdOrderTimeExpiry (l : Link) (s : State) :
    ∃ t, execHoldOrderTimeExpiry l s = .next t ∧ Keeps x s t := by
  refine ⟨_, rfl, ?_⟩
  split
  · exact .refl x s
  · next d hd =>
    split
    · refine .after (keeps_holdAttempt _ _) (.of_setLink_same (.of_legal (fun hl => ?_) rfl rfl rfl rfl) rfl rfl)
      obtain ⟨h1, h2, h3, h4, h5, h6⟩ := hl
      exact ⟨h1, h2, h3, h4, ⟨fun _ => h5.1 (by rw [hd]; rfl), fun _ => rfl⟩, h6⟩
    · exact .refl x s

theorem keeps_endWindow (l : Link) (s : State) : Keeps x s (s.setLink l (s.link l).endWindow) := by
  refine .of_setLink_same ⟨fun _ hl => ?_, fun _ => id, fun _ h => ⟨h.1, h.2.1, by simp [CraneLink.endWindow]⟩⟩ rfl rfl
  obtain ⟨h1, h2, h3, h4, h5, h6, h7, -⟩ := hl
  exact ⟨h1, h2, h3, h4, h5, fun e => ⟨(h6 e).1, rfl⟩,
    fun e => ⟨(h7 e).1, (h7 e).2.1, (h7 e).2.2.1, (h7 e).2.2.2.1, rfl⟩, by simp [CraneLink.endWindow]⟩

theorem keeps_overlapExpiry (l : Link) (s : State) : ∃ t, execOverlapExpiry l s = .next t ∧ Keeps x s t := by
  refine ⟨_, rfl, ?_⟩
  split
  · exact keeps_endWindow l s
  · exact .refl x s

/-! ### Resolution and sending (R85 to R91) -/

theorem cellsBeyond_length_le (a b : List Cell) : (cellsBeyond a b).length ≤ a.length := List.length_filter_le ..

theorem Option.length_toList_le {α : Type} (o : Option α) : o.toList.length ≤ 1 := by cases o <;> simp

theorem State.length_plannedUp_le (s : State) (e : PathEntry) : (s.plannedUp e).length ≤ 2 := by
  have h1 := Option.length_toList_le (e.primary.filter s.cellUp)
  have h2 := Option.length_toList_le (e.alternate.filter s.cellUp)
  have h3 := cellsBeyond_length_le (e.alternate.filter s.cellUp).toList (e.primary.filter s.cellUp).toList
  simp only [State.plannedUp, List.length_append]
  omega

theorem State.length_resolution_le (s : State) (l : Link) (home : Option Cell) (h : (s.link l).resolved.length ≤ 2) :
    (s.resolution l home).1.length ≤ 2 := by
  unfold State.resolution
  split
  · simp only
    split
    · have := Option.length_toList_le (home.filter (s.usable none)); omega
    · exact Nat.le_trans (List.length_filter_le ..) h
  · simp only
    split
    · simp
    · split
      · simp
      · exact s.length_plannedUp_le _

/-- A link's frames go to the quay while it arms or works: none of them is a held link's. -/
theorem State.heldQuiet.not_held_bearer (h : s.heldQuiet) (hi : (s.link l).state ≠ .idle) (hf : ¬ (s.link l).isHeld)
    {b : BitVec 12} (hb : b = (s.link l).config.bearer) (m : Link) (hm : (s.link m).isHeld) :
    b ≠ (s.link m).config.bearer := by
  intro e
  have h1 := (h.1 l hi).2
  have h2 := (h.1 m hm.ne_idle).2
  rw [← e, hb, h1] at h2
  injection h2 with h2
  exact hf (h2 ▸ hm)

theorem keeps_sendCopies {r : Passed} {crane : Option CraneState} (hi : (s.link l).state ≠ .idle)
    (hf : ¬ (s.link l).isHeld) (hb : r.header.bearer = (s.link l).config.bearer) :
    Keeps x s (sendCopies l r crane s) := by
  have hsend : Keeps x s (offerOnCells (.control (r.result crane)) r.frame (s.link l).sendSet s).2 :=
    keeps_offerOnCells _ _ s fun h n => s.mayWait_quay n 0 _ r crane (.inr ⟨rfl, rfl⟩) (h.not_held_bearer hi hf hb)
  unfold sendCopies
  simp only
  split
  · exact .after (keeps_dispose ..) (.after (.of_setLink_same
      (.of_fields rfl rfl rfl rfl rfl rfl rfl rfl rfl rfl rfl rfl) rfl rfl) hsend)
  · exact .after (keeps_dispose ..) hsend

theorem keeps_resolveAndSend {r : Passed} {crane : Option CraneState} (hi : (s.link l).state ≠ .idle)
    (hf : ¬ (s.link l).isHeld) (hb : r.header.bearer = (s.link l).config.bearer) :
    Keeps x s (resolveAndSend l r crane s) := by
  obtain ⟨hconfig, hstate⟩ := (s.link l).resolvedTo_fields s.quayTime (s.resolution l r.home).1 (s.resolution l r.home).2
  have hset : ∀ y, Keeps y s (s.setLink l
      ((s.link l).resolvedTo s.quayTime (s.resolution l r.home).1 (s.resolution l r.home).2)) := fun y =>
    .of_setLink_same (.of_free (fun h => h.resolvedTo hi hf _ _ _) hf
      fun h => h.resolvedTo (s.length_resolution_le l _ h.2.1) _ _) hstate (by rw [hconfig])
  unfold resolveAndSend
  simp only
  generalize hu : (if (s.resolution l r.home).2 = some true && !(s.link l).pathPoor then _ else _ : State) = u
  have hku : Keeps x s u := by
    rw [← hu]
    split
    · exact .after (keeps_notify ..) (hset x)
    · exact hset x
  have hlink : u.link l = (s.link l).resolvedTo s.quayTime (s.resolution l r.home).1 (s.resolution l r.home).2 := by
    rw [← hu]
    split
    · rw [State.link_notify, State.link_setLink, if_pos rfl]
    · rw [State.link_setLink, if_pos rfl]
  split
  · exact hku.trans (keeps_dispose ..)
  · refine hku.trans (keeps_sendCopies ?_ ?_ ?_) <;> rw [hlink]
    · rw [hstate]; exact hi
    · unfold CraneLink.isHeld; rw [hstate]; exact hf
    · rw [hconfig]; exact hb

/-! ### Frames (R51 to R57, R60, R61, R67, R68) -/

theorem keeps_setLink_accepted {v : CraneLink} {dir : Direction} (hi : (s.link l).state ≠ .idle)
    (hv : ∃ (lastSent : Option Sequence) (segment : Option Segment) (boom : Boom),
      v = { (s.link l).accepted s.quayTime dir with lastSent := lastSent, segment := segment, boom := boom }) :
    Keeps x s (s.setLink l v) := by
  obtain ⟨a, b, c, rfl⟩ := hv
  obtain ⟨h1, h2, h3, h4, h5⟩ := (s.link l).accepted_fields s.quayTime dir
  refine .of_setLink ⟨fun _ h => h.accepted hi s.quayTime dir, fun _ h => h4.2 h, fun _ h => ?_⟩ fun hq =>
    hq.of_setLink (fun _ => ⟨hi, by show ((s.link l).accepted _ _).config.bearer = _; rw [h1]⟩) fun h => h4.1 h
  unfold CraneLink.sizes at h ⊢
  simp only [h1, h2, h3]
  exact h

theorem keeps_acceptUp {r : Passed} (before : CraneState) (hi : (s.link l).state ≠ .idle) :
    Keeps x s (acceptUp l r before s) := by
  unfold acceptUp
  exact .after (keeps_forwardUp ..) (.after (keeps_offerTrailer ..) (.after (keeps_applyPending ..)
    (keeps_setLink_accepted (dir := .up) hi ⟨_, _, _, rfl⟩)))

theorem keeps_ignoreToken (l : Link) (s : State) : Keeps x s (s.setLink l (s.link l).ignoreToken) :=
  .of_setLink_same (.of_fields rfl rfl rfl rfl rfl rfl rfl rfl rfl rfl rfl rfl) rfl rfl

theorem keeps_openRelease (hh : (s.link l).isHeld) (now : QuayTime) :
    Keeps x s (s.setLink l ((s.link l).openRelease now)) :=
  .of_setLink ⟨fun _ h => h.openRelease hh now, fun _ _ => .inr rfl, fun _ => id⟩ fun hq =>
    hq.of_setLink (fun _ => ⟨hh.ne_idle, rfl⟩) fun _ => hh

theorem keeps_readToken (token : BitVec 16) (hh : (s.link l).isHeld)
    (hr : (s.link l).state = .releasing → x.releases l) : Keeps x s (readToken l token s) := by
  unfold readToken
  simp only
  split
  · next hs =>
    split
    · exact keeps_openRelease hh _
    · split
      · refine .after (keeps_notify ..) (.of_setLink ⟨fun _ h => h.release hs _, fun h => absurd (hr hs) h, fun _ => id⟩
          fun hq => hq.of_setLink (fun _ => ⟨hh.ne_idle, rfl⟩) fun h => ?_)
        exact absurd h (CraneLink.not_isHeld_of_working (.inr (.inl rfl)))
      · exact keeps_ignoreToken l s
  · split
    · exact keeps_openRelease hh _
    · exact keeps_ignoreToken l s

theorem keeps_acceptHeld {r : Passed} (before : CraneState) (hh : (s.link l).isHeld)
    (hr : (s.link l).state = .releasing → x.releases l) : Keeps x s (acceptHeld l r before s) := by
  unfold acceptHeld
  simp only
  refine .after (keeps_dispose ..) ?_
  split
  · exact .refl x s
  · exact keeps_readToken _ hh hr

theorem keeps_acceptDown {r : Passed} (before : CraneState) (hi : (s.link l).state ≠ .idle)
    (hf : ¬ (s.link l).isHeld) (hb : r.header.bearer = (s.link l).config.bearer) :
    Keeps x s (acceptDown l r before s) := by
  obtain ⟨h1, -, -, h4, h5⟩ := (s.link l).accepted_fields s.quayTime .down
  unfold acceptDown
  refine .after (keeps_resolveAndSend ?_ ?_ ?_) (keeps_setLink_accepted (dir := .down) hi ⟨_, _, _, rfl⟩) <;>
    rw [State.link_setLink, if_pos rfl]
  · exact fun h => hi (h5.1 h)
  · exact fun h => hf (h4.1 h)
  · show _ = ((s.link l).accepted _ _).config.bearer
    rw [h1]; exact hb

theorem CraneLink.tookSeq_fields (k : CraneLink) (dir : Direction) (q : Sequence) (gap : Nat) :
    (k.tookSeq dir q gap).state = k.state ∧ (k.tookSeq dir q gap).config = k.config := by
  cases dir <;> exact ⟨rfl, rfl⟩

theorem keeps_tookSeq (l : Link) (dir : Direction) (q : Sequence) (gap : Nat) (s : State) :
    Keeps x s (s.setLink l ((s.link l).tookSeq dir q gap)) :=
  .of_setLink_same (by cases dir <;> exact .of_fields rfl rfl rfl rfl rfl rfl rfl rfl rfl rfl rfl rfl)
    (CraneLink.tookSeq_fields ..).1 (by rw [(CraneLink.tookSeq_fields ..).2])

theorem keeps_supervise {r : Passed} (hi : (s.link l).state ≠ .idle)
    (hr : (s.link l).state = .releasing → x.releases l) (hb : r.header.bearer = (s.link l).config.bearer) :
    Keeps x s (supervise l r s) := by
  have hcount : ∀ c, Keeps x s (s.setLink l { s.link l with counts := c }) := fun c =>
    .of_setLink_same (.of_fields rfl rfl rfl rfl rfl rfl rfl rfl rfl rfl rfl rfl) rfl rfl
  unfold supervise
  simp only
  split
  · exact .after (keeps_dispose ..) (hcount _)
  · exact .after (keeps_dispose ..) (hcount _)
  · next gap hgap =>
    have hfields := fun dir => (s.link l).tookSeq_fields dir r.header.sequence gap
    have hlink := fun dir => show
        (s.setLink l ((s.link l).tookSeq dir r.header.sequence gap)).link l = _ from by rw [State.link_setLink, if_pos rfl]
    split
    · next dir =>
      refine (keeps_tookSeq ..).trans (keeps_acceptUp _ ?_)
      rw [hlink, (hfields _).1]; exact hi
    · split
      · next h =>
        refine (keeps_tookSeq ..).trans (keeps_acceptHeld _ ?_ ?_) <;> rw [hlink]
        · unfold CraneLink.isHeld; rw [(hfields _).1]; exact h
        · rw [(hfields _).1]; exact hr
      · next h =>
        refine (keeps_tookSeq ..).trans (keeps_acceptDown _ ?_ ?_ ?_) <;> rw [hlink]
        · rw [(hfields _).1]; exact hi
        · unfold CraneLink.isHeld; rw [(hfields _).1]; exact h
        · rw [(hfields _).2]; exact hb

/-- A frame governed by a CRANE descriptor: its bearer's descriptor names the link, and it travels in class 0. -/
theorem keeps_takeCraneFrame {r : Passed} (hc : r.cls = 0)
    (hd : (s.bearer r.header.bearer.toNat).treatment = .crane l)
    (hr : (s.link l).state = .releasing → x.releases l) : Keeps x s (takeCraneFrame l r s) := by
  unfold takeCraneFrame
  simp only
  split
  · next hidle =>
    split
    · exact keeps_forwardUp ..
    · refine keeps_forwardDown r _ _ s (.inr ⟨rfl, hc⟩) fun h m hm e => ?_
      have h2 := (h.1 m hm.ne_idle).2
      rw [← e, hd] at h2
      injection h2 with h2
      exact hm.ne_idle (h2 ▸ hidle)
  · next hi =>
    split
    · exact .after (keeps_dispose ..) (.of_setLink_same
        (.of_fields rfl rfl rfl rfl rfl rfl rfl rfl rfl rfl rfl rfl) rfl rfl)
    · next hb => exact keeps_supervise hi hr (by simpa using hb)

end Sys2Proof.Machine

/-! PROOFS. What the arrival of a frame and the events of a port keep (chapters 1 and 2). -/

namespace Sys2Proof.Machine

variable {x : Licence} {s : State}

/-! ### The Bearer Table (R5 to R11) -/

/-- The bucket stays within its burst: what it is refilled to is (R9, R10). -/
theorem Descriptor.refilled_le (d : Descriptor) (now : QuayTime) : d.refilled now ≤ d.burstBytes := by
  unfold Descriptor.refilled
  simp only
  split
  · exact Nat.le_refl _
  · exact Nat.min_le_left ..

theorem Descriptor.level_afterFrame_le {d : Descriptor} (h : d.level ≤ d.burstBytes) (now : QuayTime) (n : Nat) :
    (d.afterFrame now n).level ≤ (d.afterFrame now n).burstBytes := by
  have hr := d.refilled_le now
  unfold Descriptor.afterFrame Descriptor.counted Descriptor.drawn
  split
  · exact h
  · show (if n ≤ d.refilled now then d.refilled now - n else d.refilled now) ≤ d.burstBytes
    split <;> omega

theorem Descriptor.treatment_afterFrame (d : Descriptor) (now : QuayTime) (n : Nat) :
    (d.afterFrame now n).treatment = d.treatment := by
  unfold Descriptor.afterFrame Descriptor.counted Descriptor.drawn
  split <;> rfl

theorem State.bearersLegal.ne_zero (h : s.bearersLegal) {i : Nat} (ht : (s.bearer i).treatment ≠ .absent) : i ≠ 0 := by
  rintro rfl
  exact ht (by rw [h.2]; rfl)

theorem keeps_touch {i : Nat} (h0 : s.bearersLegal → i ≠ 0) : Keeps x s (touch i s) :=
  .of_setBearer id h0 rfl

theorem touch_treatment (i j : Nat) (s : State) : ((touch i s).bearer j).treatment = (s.bearer j).treatment := by
  rw [touch, State.bearer_setBearer]
  split
  next e => rw [e]
  next => rfl

@[simp] theorem touch_link (i : Nat) (s : State) (l : Link) : (touch i s).link l = s.link l := rfl

theorem keeps_countExcess (t : Treatment) (s : State) : Keeps x s (countExcess t s) := by
  unfold countExcess
  split
  case h_1 => exact .of_setLink_same (.of_fields rfl rfl rfl rfl rfl rfl rfl rfl rfl rfl rfl rfl) rfl rfl
  all_goals exact .refl x s

theorem keeps_dropMalformed (p : Port) (f : Frame) (h : Option Header) (kind : CaptureKind) (s : State) :
    Keeps x s (dropMalformed p f h kind s) := .after (keeps_present ..) (.of_arrivals ..)

theorem keeps_dropForeign (p : Port) (f : Frame) (s : State) : Keeps x s (dropForeign p f s) :=
  .after (keeps_present ..) (.of_arrivals ..)

/-! ### Handing on (R13 to R15) -/

theorem keeps_takeReeferUp (i : Slot) (absorb : Bool) (r : Passed) (s : State) :
    Keeps x s (takeReeferUp i absorb r s) := by
  have htaken : ∀ y, Keeps y s (takeReport i (readReport r.payload)
      (offerTrailer false (reeferSegment i s) r.header.cell r.trailer s)) := fun y =>
    (keeps_offerTrailer ..).trans (keeps_takeReport (length_readReport_alarms _) _)
  unfold takeReeferUp
  simp only
  split
  · exact .after (keeps_dispose ..) (.after (.of_registry_counts rfl rfl rfl) (htaken x))
  · exact .after (keeps_forwardUp ..) (htaken x)

/-- A downlink frame of a bearer whose entry names no link is no held link's. -/
theorem State.heldQuiet.ne_bearer (h : s.heldQuiet) {b : BitVec 12}
    (hb : ∀ l, (s.bearer b.toNat).treatment ≠ .crane l) (l : Link) (hl : (s.link l).isHeld) :
    b ≠ (s.link l).config.bearer := by
  rintro rfl
  exact hb l (h.1 l hl.ne_idle).2

/-- A frame that passed: its treatment names a link exactly when its bearer's own entry does, and then it travels in
class 0. -/
theorem keeps_handOn {r : Passed}
    (hn : ∀ l, r.treatment = .crane l ↔ (s.bearer r.header.bearer.toNat).treatment = .crane l)
    (hc : ∀ l, r.treatment = .crane l → r.cls = 0) (hr : ∀ l, (s.link l).state = .releasing → x.releases l) :
    Keeps x s (handOn r s) := by
  have hdown : (∀ l, r.treatment ≠ .crane l) → Keeps x s (forwardDown r none (.forwarded (r.result none)) s) :=
    fun ht => keeps_forwardDown r none _ s (.inl rfl) fun h =>
      h.ne_bearer fun l e => ht l ((hn l).2 e)
  unfold handOn
  split
  case h_1 => exact .after (keeps_forwardUp ..) (keeps_offerTrailer ..)
  case h_2 ht _ => exact hdown fun l e => by rw [ht] at e; cases e
  case h_3 => exact keeps_takeReeferUp ..
  case h_4 ht _ => exact hdown fun l e => by rw [ht] at e; cases e
  case h_5 l ht => exact keeps_takeCraneFrame (hc l ht) ((hn l).1 ht) (hr l)
  case h_6 => exact .refl x s
  case h_7 => exact .refl x s

/-! ### The stages of the classifier (R1 to R15) -/

theorem effectiveClass_of_crane {d : Descriptor} {l : Link} (h : d.treatment = .crane l) (c : Class) :
    effectiveClass d c = 0 := by
  unfold effectiveClass
  rw [h]

/-- A frame under a CRANE descriptor is never demoted (R10). -/
theorem Descriptor.police_ne_demoted {d : Descriptor} {l : Link} (h : d.treatment = .crane l) (now : QuayTime)
    (n : Nat) : d.police now n ≠ .demoted := by
  unfold Descriptor.police
  split
  · simp
  · split
    · simp
    · rw [h]; simp

theorem keeps_govern {p : Port} {f : Frame} {h : Header} {dir : Direction} {i : Nat}
    (h0 : s.bearersLegal → i ≠ 0)
    (hn : ∀ l, (s.bearer i).treatment = .crane l ↔ (s.bearer h.bearer.toNat).treatment = .crane l)
    (hr : ∀ l, (s.link l).state = .releasing → x.releases l) : Keeps x s (govern p f h dir i s) := by
  unfold govern
  simp only
  split
  · exact keeps_dropMalformed ..
  · generalize 10 + h.payloadLength = n
    have hset : ∀ y, Keeps y s (s.setBearer i ((s.bearer i).afterFrame s.quayTime n)) := fun y =>
      .of_setBearer (fun h => Descriptor.level_afterFrame_le h _ _) h0 (Descriptor.treatment_afterFrame ..)
    have htreat : ∀ j, ((s.setBearer i ((s.bearer i).afterFrame s.quayTime n)).bearer j).treatment =
        (s.bearer j).treatment := fun j => by
      rw [State.bearer_setBearer]
      split
      next e => rw [e, Descriptor.treatment_afterFrame]
      next => rfl
    have hhand : ∀ cls, (∀ l, (s.bearer i).treatment = .crane l → cls = 0) →
        Keeps x s (handOn (passedFrame p f h dir i (s.bearer i) cls)
          (s.setBearer i ((s.bearer i).afterFrame s.quayTime n))) := fun cls hc =>
      (hset x).trans (keeps_handOn (fun l => by rw [htreat]; exact hn l) hc hr)
    split
    · exact hhand _ fun l hl => effectiveClass_of_crane hl _
    · next hd => exact hhand _ fun l hl => absurd hd (Descriptor.police_ne_demoted hl _ _)
    · exact .after (keeps_present ..) (.after (keeps_countExcess ..) (hset x))

theorem keeps_redirect {p : Port} {f : Frame} {h : Header} {dir : Direction} {target : BitVec 12}
    (hn : ∀ l, (s.bearer h.bearer.toNat).treatment ≠ .crane l)
    (hr : ∀ l, (s.link l).state = .releasing → x.releases l) : Keeps x s (redirect p f h dir target s) := by
  have hgovern : (s.bearer target.toNat).treatment ≠ .absent →
      (∀ l, (s.bearer target.toNat).treatment ≠ .crane l) →
      Keeps x s (govern p f h dir target.toNat (touch target.toNat s)) := fun ha hc => by
    have h0 : ∀ t, (∀ j, ((t : State).bearer j).treatment = (s.bearer j).treatment) → t.bearersLegal →
        target.toNat ≠ 0 := fun t ht h => h.ne_zero (by rw [ht]; exact ha)
    refine .trans (keeps_touch (h0 s fun _ => rfl)) (keeps_govern (h0 _ fun j => touch_treatment ..) (fun l => ?_) hr)
    rw [touch_treatment, touch_treatment]
    exact ⟨fun e => absurd e (hc l), fun e => absurd e (hn l)⟩
  unfold redirect
  split
  case h_1 ht => exact hgovern (by rw [ht]; simp) fun l e => by rw [ht] at e; cases e
  case h_2 ht => exact hgovern (by rw [ht]; simp) fun l e => by rw [ht] at e; cases e
  all_goals exact keeps_present ..

theorem keeps_resolveDescriptor {p : Port} {f : Frame} {h : Header} {dir : Direction}
    (hr : ∀ l, (s.link l).state = .releasing → x.releases l) : Keeps x s (resolveDescriptor p f h dir s) := by
  unfold resolveDescriptor
  simp only
  split
  · exact keeps_present ..
  · next h0 =>
    have htouch : Keeps x s (touch h.bearer.toNat s) := keeps_touch fun _ => h0
    have hgovern : Keeps x s (govern p f h dir h.bearer.toNat (touch h.bearer.toNat s)) :=
      htouch.trans (keeps_govern (fun _ => h0) (fun _ => Iff.rfl) hr)
    split
    case h_1 => exact htouch.trans (keeps_present ..)
    case h_2 ht => exact htouch.trans (keeps_redirect (fun l e => by rw [ht] at e; cases e) hr)
    all_goals exact hgovern

theorem keeps_takeBearerFrame {p : Port} {f : Frame} (hr : ∀ l, (s.link l).state = .releasing → x.releases l) :
    Keeps x s (takeBearerFrame p f s) := by
  unfold takeBearerFrame
  split
  · exact keeps_dropMalformed ..
  · simp only
    split
    · exact keeps_dropMalformed ..
    · exact keeps_resolveDescriptor hr

/-! ### Requests (R181) -/

theorem readCommands_wellFormed {n : Nat} {data : List Byte} {commands : List WireCommand}
    (h : readCommands data n = some commands) : ∀ w ∈ commands, w.wellFormed = true := by
  induction n generalizing data commands with
  | zero =>
    unfold readCommands at h
    injection h with h
    rw [← h]
    simp
  | succ n ih =>
    unfold readCommands at h
    simp only at h
    split at h
    · cases h
    · next hlen =>
      obtain ⟨rest, hrest, rfl⟩ := Option.map_eq_some_iff.1 h
      intro w hw
      rcases List.mem_cons.1 hw with rfl | hw
      · simp only [WireCommand.wellFormed, bytesAt, List.length_take, List.length_drop, beq_iff_eq]
        omega
      · exact ih hrest w hw

theorem readRequest_wellFormed {f : Frame} {q : Request} (h : readRequest f = some q) :
    ∀ w ∈ q.commands, w.wellFormed = true := by
  unfold readRequest at h
  simp only at h
  split at h
  · cases h
  · obtain ⟨commands, hc, rfl⟩ := Option.map_eq_some_iff.1 h
    exact readCommands_wellFormed hc

theorem keeps_judgeRequest (f : Frame) (s : State) : Keeps x s (judgeRequest f s) := by
  unfold judgeRequest
  simp only
  split
  · exact .of_endpoint_counts rfl rfl rfl
  · split
    · exact .of_endpoint_counts rfl rfl rfl
    · next q hq =>
      split
      · exact .of_endpoint_counts rfl rfl rfl
      · refine .of_endpoint id (fun _ => ?_) (fun r hr => ?_) fun e he => ⟨e, he, rfl⟩
        · simp only [List.length_append, List.length_singleton]; omega
        · rcases List.mem_append.1 hr with hr | hr
          · exact .inl hr
          · rw [List.mem_singleton.1 hr]
            exact .inr (readRequest_wellFormed hq)

theorem keeps_takeManagementFrame (p : Port) (f : Frame) (s : State) : Keeps x s (takeManagementFrame p f s) := by
  unfold takeManagementFrame
  split
  · split
    · exact .after (keeps_judgeRequest ..) (keeps_present ..)
    · exact keeps_dropForeign ..
  · exact keeps_dropMalformed ..

/-! ### Arrivals (R1, R24) -/

theorem keeps_classify {p : Port} {f : Frame} (hr : ∀ l, (s.link l).state = .releasing → x.releases l) :
    Keeps x s (classify p f s) := by
  have hcount : Keeps x s (countReceived p s) := .of_arrivals ..
  unfold classify
  simp only
  split
  · exact hcount.trans (keeps_takeBearerFrame hr)
  · split
    · exact hcount.trans (keeps_takeManagementFrame ..)
    · exact hcount.trans (keeps_dropForeign ..)

theorem keeps_frameArrival (p : Port) (f : Frame) (right : Bool)
    (hr : ∀ l, (s.link l).state = .releasing → x.releases l) :
    ∃ t, execFrameArrival p f right s = .next t ∧ Keeps x s t := by
  refine ⟨_, rfl, ?_⟩
  split
  · split
    · exact keeps_classify hr
    · exact .of_store (.setPort rfl) (FrameStore.up_setPort rfl)
  · exact .refl x s

/-! ### Link loss and link gain (R25, R26) -/

/-- The flags follow when a port's link state changes (R28). -/
theorem flagsTrue_flagCells {st : FrameStore} {p : Port} {up : Bool} (h : s.flagsTrue)
    (hp : (st.port p).up = up) (ho : ∀ q, q ≠ p → (st.port q).up = (s.store.port q).up) :
    ({ s with store := st
              classifier := { s.classifier with cells := flagCells s.classifier.cells p up } } : State).flagsTrue := by
  refine ⟨fun c => ?_, h.2⟩
  have hc := h.1 c
  show ((flagCells s.classifier.cells p up).get c.val).portUp = (((flagCells s.classifier.cells p up).get c.val).present &&
    (st.port (quayPort ((flagCells s.classifier.cells p up).get c.val).quayPort)).up)
  unfold State.cell at hc
  rw [flagCells, Table.get_map]
  split
  next e => simp only [e, hp, Bool.and_comm]
  next e => rw [hc, ho _ e]

/-- A change of a port's link state, with its cells' flags. -/
theorem Keeps.of_linkState {st : FrameStore} {p : Port} {up : Bool}
    (hk : StoreKeeps s.waits s.settings s.store st) (hp : (st.port p).up = up)
    (ho : ∀ q, q ≠ p → (st.port q).up = (s.store.port q).up) :
    Keeps x s { s with store := st
                       classifier := { s.classifier with cells := flagCells s.classifier.cells p up } } :=
  { Keeps.refl x s with
    pending := rfl
    pool := fun h => hk.whole.trans h
    limits := fun h => h.of_store hk
    flags := fun h => flagsTrue_flagCells h hp ho
    canonical := fun ⟨a, b, _, d, e, f, g⟩ => ⟨a, b, Table.wf_map _ _, d, (hk.wf ⟨e, f⟩).1, (hk.wf ⟨e, f⟩).2, g⟩
    quiet := fun h => h.of_store hk }

theorem FrameStore.up_setPort_other (st : FrameStore) {p q : Port} (v : PortState) (h : q ≠ p) :
    ((st.setPort p v).port q).up = (st.port q).up := by rw [FrameStore.port_setPort, if_neg h]

theorem keeps_gainLink (p : Port) (s : State) : Keeps x s (gainLink p s) :=
  .after (keeps_notify ..) (.of_linkState (.setPort rfl) (by rw [FrameStore.port_setPort, if_pos rfl]) fun _ h =>
    FrameStore.up_setPort_other _ _ h)

/-- The Frame Store after the loss of a port's link (R25). -/
def FrameStore.linkLost (st : FrameStore) (p : Port) (receiving : Bool) : FrameStore :=
  let lost := (((st.setPort p { st.port p with
    up := false
    receiveErrors := if receiving then bump16 (st.port p).receiveErrors else (st.port p).receiveErrors }).cutOff
      p).emptyQueues p).resetTurn p
  lost.setPort p { lost.port p with linkLosses := bump16 (lost.port p).linkLosses }

theorem loseLink_eq (p : Port) (receiving : Bool) (s : State) :
    loseLink p receiving s = ({ s with
      store := s.store.linkLost p receiving
      classifier := { s.classifier with cells := flagCells s.classifier.cells p false } } : State).notify .linkDown
        (portNumber p) (s.setting 37) (some (BitVec.ofNat 16 (min 65535 (s.store.residents p)))) := rfl

theorem StoreKeeps.linkLost (may : Port → Class → Origin → Prop) (settings : Table Nat) (st : FrameStore) (p : Port)
    (receiving : Bool) : StoreKeeps may settings st (st.linkLost p receiving) := by
  have hcount : ∀ st', StoreKeeps may settings st st' → StoreKeeps may settings st
      (st'.setPort p { st'.port p with linkLosses := bump16 (st'.port p).linkLosses }) := fun _ h => h.trans (.setPort rfl)
  unfold FrameStore.linkLost
  refine hcount _ (.trans ?_ (.resetTurn ..))
  refine .trans ?_ (.dropAt ..)
  refine .trans ?_ (.cutOff ..)
  exact .setPort rfl

theorem FrameStore.up_linkLost (st : FrameStore) (p q : Port) (receiving : Bool) :
    ((st.linkLost p receiving).port q).up = if q = p then false else (st.port q).up := by
  unfold FrameStore.linkLost
  simp only [FrameStore.port_setPort, FrameStore.emptyQueues]
  split
  next =>
    simp only [FrameStore.up_resetTurn, FrameStore.port_dropAt, FrameStore.up_cutOff, FrameStore.port_setPort, if_true]
  next h =>
    simp only [FrameStore.up_resetTurn, FrameStore.port_dropAt, FrameStore.up_cutOff, FrameStore.port_setPort, if_neg h]

theorem keeps_loseLink (p : Port) (receiving : Bool) (s : State) : Keeps x s (loseLink p receiving s) := by
  have hk := StoreKeeps.linkLost s.waits s.settings s.store p receiving
  have hup := fun q => s.store.up_linkLost p q receiving
  rw [loseLink_eq]
  generalize s.store.linkLost p receiving = st at hk hup ⊢
  exact .after (keeps_notify ..) (.of_linkState hk (by rw [hup, if_pos rfl]) fun q hq => by rw [hup, if_neg hq])

end Sys2Proof.Machine

/-! PROOFS. What the management commands keep (chapter 10): the execution of a command with its result, the settings,
the tables and the orders. -/

namespace Sys2Proof.Machine

variable {x : Licence} {s u : State}

/-! ### A command and its result (R183 to R185) -/

theorem keeps_showAnswer (a : Answer) (s : State) : Keeps x s (showAnswer a s) := .of_endpoint_counts rfl rfl rfl

theorem keeps_endRequest {o : Origin} (hc : ∀ r, o ≠ .control r) (hf : ∀ r, o ≠ .forwarded r) (e : Execution)
    (s : State) : Keeps x s (endRequest o e s) := by
  have hoffer : ∀ f, Keeps x s (s.offer .y 1 none o f).2 := fun f =>
    .of_offer f fun _ => s.mayWait_composed _ _ hc hf
  unfold endRequest
  simp only
  split <;> exact .after (.of_endpoint id id (fun q hq => .inl hq) nofun) (hoffer _)

/-- A request goes on being executed: its commands are those of the request that was. -/
theorem Keeps.withExecuting {e : Execution} (h : Keeps x s (u.withExecuting none))
    (he : s.sizesLegal → ∀ w ∈ e.request.commands, w.wellFormed = true) :
    Keeps x s (u.withExecuting (some e)) :=
  { h with
    sizes := fun hf hs => by
      obtain ⟨h1, h2, h3, h4, -⟩ := h.sizes hf hs
      exact ⟨h1, h2, h3, h4, fun d hd => by injection hd with hd; exact hd ▸ he hs⟩ }

theorem keeps_settle {e : Execution} (a : Answer) (hk : Keeps x s u) (he : s.endpoint.executing = some e) :
    Keeps x s (settle e a u) := by
  unfold settle
  simp only
  split
  · exact (hk.trans (keeps_showAnswer ..)).trans (keeps_endRequest (by simp) (by simp) _ _)
  · refine Keeps.withExecuting (u := showAnswer a u) ?_ fun hs => hs.2.2.2.2 e he
    exact .after (.of_endpoint id id (fun q hq => .inl hq) nofun) (hk.trans (keeps_showAnswer ..))

/-- A management command keeps what its owner keeps. -/
theorem keeps_runCommand (code : Byte) (size : Nat) {owner : State → Ruling × State} (h : Keeps x s (owner s).2) :
    Keeps x s (runCommand code size owner s) := by
  unfold runCommand
  split
  · exact h.trans (keeps_showAnswer ..)
  · next e he =>
    split
    · exact keeps_settle _ (.refl x s) he
    · exact keeps_settle _ h he

theorem keeps_guarded {code : ResultCode} {effect : State → State} (h : code = .ok → Keeps x s (effect s)) :
    Keeps x s (guarded code effect s).2 := by
  unfold guarded
  split
  next hc => exact h hc
  next => exact .refl x s

/-! ### The settings (R187) -/

theorem settingCode_ok {index value : Nat} (h : settingCode s index value = .ok) :
    index < 54 ∧ (settingRange index).1 ≤ value ∧ value ≤ (settingRange index).2 ∧
      (2 ≤ index → index < 22 → limitLength s index ≤ value) := by
  unfold settingCode at h
  split at h
  · cases h
  · split at h
    · cases h
    next hw =>
      simp only [within, Bool.not_eq_true', Bool.not_eq_false, Bool.and_eq_true, decide_eq_true_eq] at hw
      split at h
      · cases h
      · split at h
        · cases h
        next hb => exact ⟨by omega, hw.1, hw.2, fun h1 h2 => by omega⟩

theorem limitIndex_range (p : Port) (c : Class) : 2 ≤ limitIndex p c ∧ limitIndex p c < 22 := by
  have := c.isLt
  cases p <;> simp only [limitIndex, portNumber] <;> omega

theorem limitLength_limitIndex (s : State) (p : Port) (c : Class) :
    limitLength s (limitIndex p c) = (s.store.queue p c).entries.length := by
  rw [limitLength, limitIndex, FrameStore.queue, queueKey, show 2 + 4 * portNumber p + c.val - 2 = 4 * portNumber p + c.val
    by omega]

/-- An accepted write of a setting, its emission aside: the value is stored, a written interval re-arms the timer, and a
raised floor purges the queue. -/
theorem Keeps.of_setting {index value : Nat} (b : SummaryBuilder) {v : NoticeUnit}
    (h : settingCode s index value = .ok)
    (hv : v = s.notices ∧ (index = 50 → value ≤ s.setting 50) ∨ index = 50 ∧ v = s.notices.purge value) :
    Keeps x s { s with settings := s.settings.set index value, summary := b, notices := v } := by
  obtain ⟨hi, hlo, hhi, hlimit⟩ := settingCode_ok h
  refine { Keeps.refl x s with
    pending := rfl
    limits := fun ⟨h1, h2⟩ => ⟨fun i hi => ?_, fun p c => ?_⟩
    canonical := fun ⟨a, b⟩ => ⟨Table.wf_set _ _ _ a, b⟩
    notices := fun ⟨h1, h2⟩ => ?_ }
  · show _ ≤ (s.settings.set index value).get i ∧ (s.settings.set index value).get i ≤ _
    rw [Table.get_set]
    split
    next e => rw [e]; exact ⟨hlo, hhi⟩
    next => exact h1 i hi
  · show _ ≤ (s.settings.set index value).get (limitIndex p c)
    rw [Table.get_set]
    split
    next e =>
      obtain ⟨h3, h4⟩ := limitIndex_range p c
      rw [← limitLength_limitIndex, e]
      exact hlimit (e ▸ h3) (e ▸ h4)
    next => exact h2 p c
  · show v.queue.length ≤ 64 ∧ ∀ n ∈ v.queue, (s.settings.set index value).get 50 < n.level
    rw [Table.get_set]
    rcases hv with ⟨rfl, hle⟩ | ⟨rfl, rfl⟩
    · refine ⟨h1, fun n hn => ?_⟩
      have hn := h2 n hn
      split
      next e => have := hle e.symm; omega
      next => exact hn
    · refine ⟨Nat.le_trans (List.length_filter_le ..) h1, fun n hn => ?_⟩
      rw [if_pos rfl]
      simpa using (List.mem_filter.1 hn).2

theorem keeps_storeSetting {index value : Nat} (h : settingCode s index value = .ok) :
    Keeps x s (storeSetting index value s) := by
  have hset : index ≠ 50 → ∀ b, Keeps x s { s with settings := s.settings.set index value, summary := b } :=
    fun hi b => .of_setting b h (.inl ⟨rfl, fun e => absurd e hi⟩)
  unfold storeSetting
  simp only
  split
  case h_1 => exact hset (by decide) _
  case h_2 =>
    split
    · exact .of_setting _ h (.inr ⟨rfl, rfl⟩)
    · exact .of_setting _ h (.inl ⟨rfl, fun _ => by omega⟩)
  case h_3 =>
    split
    · exact hset (by decide) _
    · exact .after (keeps_emitNotices _) (hset (by decide) _)
  case h_4 h50 _ => exact hset h50 _

theorem keeps_writeSetting (index value : Nat) (s : State) : Keeps x s (writeSetting index value s).2 :=
  keeps_guarded keeps_storeSetting

theorem settingCode_congr {t : State} (hi : t.identity = s.identity) (hs : t.store = s.store) (index value : Nat) :
    settingCode t index value = settingCode s index value := by
  unfold settingCode limitLength
  rw [hi, hs]

/-- The return of a setting to its cold value brings no emission: the identity and the Frame Store stay. -/
theorem storeSetting_cold (index : Nat) (s : State) :
    (storeSetting index (Settings.coldValue s.identity index) s).identity = s.identity ∧
    (storeSetting index (Settings.coldValue s.identity index) s).store = s.store := by
  unfold storeSetting
  simp only
  split
  · exact ⟨rfl, rfl⟩
  · split <;> exact ⟨rfl, rfl⟩
  · rw [if_pos (by rfl)]; exact ⟨rfl, rfl⟩
  · exact ⟨rfl, rfl⟩

theorem clearSettingsCode_succ {first n : Nat} (h : clearSettingsCode s first (n + 1) = .ok) :
    settingCode s first (Settings.coldValue s.identity first) = .ok ∧ clearSettingsCode s (first + 1) n = .ok := by
  unfold clearSettingsCode at h
  split at h
  next hc => exact ⟨hc, h⟩
  next hc => exact absurd h hc

theorem clearSettingsCode_congr {t : State} (hi : t.identity = s.identity) (hs : t.store = s.store) (first n : Nat) :
    clearSettingsCode t first n = clearSettingsCode s first n := by
  induction n generalizing first with
  | zero => rfl
  | succ n ih => unfold clearSettingsCode; rw [settingCode_congr hi hs, hi, ih]

theorem keeps_coldSettings {first n : Nat} (h : clearSettingsCode s first n = .ok) :
    Keeps x s (coldSettings first n s) := by
  induction n generalizing s first with
  | zero => exact .refl x s
  | succ n ih =>
    obtain ⟨h1, h2⟩ := clearSettingsCode_succ h
    obtain ⟨hi, hs⟩ := storeSetting_cold first s
    exact (keeps_storeSetting h1).trans (ih (by rw [clearSettingsCode_congr hi hs]; exact h2))

theorem rangeCode_ok {entries first count : Nat} (h : rangeCode entries first count = .ok) :
    count ≠ 0 ∧ first + count ≤ entries := by
  unfold rangeCode at h
  split at h
  · cases h
  · split at h
    · cases h
    · exact ⟨by omega, by omega⟩

theorem keeps_clearSettings (first count : Nat) (s : State) : Keeps x s (clearSettings first count s).2 := by
  refine keeps_guarded fun h => ?_
  split at h
  next => exact keeps_coldSettings h
  next hr => exact absurd h hr

/-! ### The common mechanics of tables (R186) -/

theorem keeps_writeEntry {α : Type} {entries index : Nat} {fields : Option α} {test : α → ResultCode}
    {store : α → State → State}
    (h : ∀ v, fields = some v → index < entries → test v = .ok → Keeps x s (store v s)) :
    Keeps x s (writeEntry entries index fields test store s).2 := by
  unfold writeEntry
  split
  · exact .refl x s
  · split
    · exact .refl x s
    · exact keeps_guarded (h _ rfl (by omega))

theorem keeps_clearEntries {entries first count : Nat} {test : ResultCode} {clear : State → State}
    (h : first + count ≤ entries → test = .ok → Keeps x s (clear s)) :
    Keeps x s (clearEntries entries first count test clear s).2 := by
  refine keeps_guarded fun hc => ?_
  split at hc
  next hr => exact h (rangeCode_ok hr).2 hc
  next hr => exact absurd hc hr

/-! ### MANAGERS, CELLS, GEOMETRY, PATHS, PROFILES, COVERAGE -/

theorem Keeps.of_managers {m : Table Address} (hw : s.endpoint.managers.wf = true → m.wf = true) :
    Keeps x s { s with endpoint := { s.endpoint with managers := m } } :=
  .of_endpoint hw id (fun _ hq => .inl hq) fun e he => ⟨e, he, rfl⟩

theorem Keeps.of_cells {m : Table CellEntry} (hw : s.classifier.cells.wf = true → m.wf = true)
    (h : s.flagsTrue → ∀ c : Cell, (m.get c.val).portUp =
      ((m.get c.val).present && (s.store.port (quayPort (m.get c.val).quayPort)).up)) :
    Keeps x s { s with classifier := { s.classifier with cells := m } } :=
  { Keeps.refl x s with
    pending := rfl
    flags := fun hf => ⟨h hf, hf.2⟩
    canonical := fun ⟨a, b, c, d⟩ => ⟨a, b, hw c, d⟩ }

theorem keeps_storeCell (index : Nat) (v : Bool × Fin 4 × BitVec 16) (s : State) : Keeps x s (storeCell index v s) := by
  refine .of_cells (Table.wf_set _ _ _) fun hf c => ?_
  rw [Table.get_set]
  split
  · rfl
  · exact hf.1 c

theorem keeps_clearCellRange (first count : Nat) (s : State) : Keeps x s (clearCellRange first count s) := by
  refine .of_cells (Table.wf_fill _ _ _ _) fun hf c => ?_
  rw [Table.get_fill]
  split
  · rfl
  · exact hf.1 c

theorem keeps_storeGeometry {bay : Nat} (g : Option Segment) (h : bay < 255) (s : State) :
    Keeps x s (storeGeometry bay g s) :=
  .of_paths (.inl (Table.get_set_other _ _ (by omega))) fun ⟨_, _, _, _, _, _, _, hg, hst, ha, _⟩ =>
    ⟨Table.wf_set _ _ _ hg, hst, ha⟩

theorem keeps_clearGeometryRange (first count : Nat) (s : State) : Keeps x s (clearGeometryRange first count s) := by
  refine .of_paths ?_ fun ⟨_, _, _, _, _, _, _, hg, hst, ha, _⟩ => ⟨Table.wf_fill _ _ _ _ hg, hst, ha⟩
  rw [Table.get_fill]
  split
  · exact .inr rfl
  · exact .inl rfl

theorem keeps_storePath (index : Nat) (e : PathEntry) (s : State) : Keeps x s (storePath index e s) :=
  .of_paths (.inl rfl) fun ⟨_, _, _, _, _, _, _, hg, hst, ha, _⟩ => ⟨hg, Table.wf_set _ _ _ hst, ha⟩

theorem keeps_clearPathRange (first count : Nat) (s : State) : Keeps x s (clearPathRange first count s) :=
  .of_paths (.inl rfl) fun ⟨_, _, _, _, _, _, _, hg, hst, ha, _⟩ => ⟨hg, Table.wf_fill _ _ _ _ hst, ha⟩

theorem Keeps.of_profiles {m : Table Profile} (hw : s.registry.profiles.wf = true → m.wf = true) :
    Keeps x s { s with registry := { s.registry with profiles := m } } :=
  .of_registry id (fun _ _ h => ⟨Nat.le_refl _, h⟩) (fun h => ⟨h.1, hw h.2⟩) fun _ h => h

theorem keeps_clearCoverageRange (first count : Nat) (s : State) : Keeps x s (clearCoverageRange first count s) := by
  refine .of_coverage (Table.wf_fill _ _ _ _) fun h i => ?_
  rw [Table.get_fill]
  split
  · exact ⟨by decide, by decide, fun _ => rfl, by simp [CoverEntry.cold]⟩
  · exact h i

/-! ### BEARERS (R18 to R21) -/

theorem State.engages_iff (s : State) (t : Treatment) :
    s.engages t = true ↔ ∃ l, t = .crane l ∧ (s.link l).state ≠ .idle := by
  cases t <;> simp [State.engages]

theorem keeps_writeBearer (index : Nat) (f : BearerFields) (s : State) : Keeps x s (writeBearer index f s).2 := by
  unfold writeBearer
  split
  · exact .refl x s
  · next h0 =>
    refine keeps_writeEntry fun d _ _ htest => .of_bearers (fun h => ⟨fun i => ?_, ?_⟩) (Table.wf_set _ _ _)
      fun l hl _ ht => ?_
    · rw [Table.get_set]
      split
      · exact Nat.le_refl _
      · exact h.1 i
    · rw [Table.get_set_other _ _ (fun e => h0 e.symm)]
      exact h.2
    · rw [Table.get_set_other]
      · exact ht
      · rintro rfl
        have hengages := (s.engages_iff _).2 ⟨l, ht, hl⟩
        unfold bearerTest at htest
        split at htest
        · cases htest
        · simp [hengages] at htest

theorem keeps_clearBearers (first count : Nat) (s : State) :
    Keeps x s (clearEntries 4096 first count (bearerRangeTest first count s) (clearBearerRange first count) s).2 := by
  refine keeps_clearEntries fun hrange htest => ?_
  unfold bearerRangeTest at htest
  split at htest
  · cases htest
  next h0 =>
    split at htest
    · cases htest
    next hengaged =>
      refine .of_bearers (fun h => ⟨fun i => ?_, ?_⟩) (Table.wf_fill _ _ _ _) fun l hl _ ht => ?_
      · rw [Table.get_fill]
        split
        · exact Nat.le_refl _
        · exact h.1 i
      · rw [Table.get_fill, if_neg (by omega)]
        exact h.2
      · rw [Table.get_fill, if_neg]
        · exact ht
        · rintro ⟨h1, h2⟩
          refine hengaged (List.any_eq_true.2 ⟨(s.link l).config.bearer.toNat - first, ?_, ?_⟩)
          · simp only [List.mem_range]; omega
          · rw [show first + ((s.link l).config.bearer.toNat - first) = (s.link l).config.bearer.toNat by omega]
            exact (s.engages_iff _).2 ⟨l, ht, hl⟩

/-! ### CRANES (R46 to R50) -/

theorem Keeps.of_links {t : Table CraneLink} (h : ∀ l : Link, LinkKeeps x l (s.link l) (t.get l.val))
    (hs : ∀ l : Link, (t.get l.val).state = (s.link l).state)
    (hb : ∀ l : Link, (t.get l.val).state ≠ .idle → (t.get l.val).config.bearer = (s.link l).config.bearer)
    (hw : s.links.wf = true → t.wf = true) : Keeps x s { s with links := t } := by
  have hheld : ∀ l : Link, (t.get l.val).isHeld ↔ (s.link l).isHeld := fun l => by
    unfold CraneLink.isHeld; rw [hs]
  refine { Keeps.refl x s with
    pending := rfl
    legal := fun l => (h l).legal
    held := fun l => (h l).held
    canonical := fun ⟨a, b, c, d, e, f, g, i⟩ => ⟨a, b, c, d, e, f, hw g, i⟩
    quiet := fun ⟨h1, h2, h3⟩ => ⟨fun l hl => ?_, h2, fun l hl => ?_⟩
    sizes := fun hf ⟨h1, h2⟩ => ⟨fun l => (h l).sizes hf (h1 l), h2⟩ }
  · have hi : (t.get l.val).state ≠ .idle := hl
    show (t.get l.val).config.bearer ≠ 0 ∧ (s.bearer (t.get l.val).config.bearer.toNat).treatment = .crane l
    rw [hb l hi]
    exact h1 l (hs l ▸ hi)
  · have hi : (t.get l.val).isHeld := hl
    show ∀ p c, p ≠ Port.y → ∀ e ∈ (s.store.queue p c).entries, ∀ r : Classification,
      e.origin = .control r ∨ e.origin = .forwarded r → r.bearer ≠ (t.get l.val).config.bearer
    rw [hb l hi.ne_idle]
    exact h3 l ((hheld l).1 hi)

theorem readCrane_some {f : CraneFields} {c : CraneConfig} (h : readCrane f = some c) :
    c.template.length ≤ 64 ∧ (c.enable = true → c.bearer ≠ 0) := by
  unfold readCrane at h
  simp only at h
  split at h
  next hc =>
    injection h with h
    subst h
    simp only [within, Bool.and_eq_true, decide_eq_true_eq, Bool.not_eq_true', Bool.and_eq_false_iff,
      decide_eq_false_iff_not] at hc
    obtain ⟨⟨⟨⟨⟨⟨⟨⟨⟨⟨⟨⟨⟨⟨-, hbearer⟩, -⟩, -⟩, -⟩, -⟩, -⟩, -⟩, -⟩, hlen⟩, -⟩, -⟩, -⟩, -⟩, hzero⟩ := hc
    refine ⟨?_, fun he (hz : f.bearer.setWidth 12 = 0#12) => ?_⟩
    · simp only [List.length_take]; omega
    · have he : f.enable = 1 := by simpa using he
      rcases hzero with h | h
      · exact h he
      · exact h (by bv_omega)
  next => cases h

theorem CraneConfig.withLevels_fields {c d : CraneConfig} (h : c.withLevels d = d) : d.bearer = c.bearer :=
  (congrArg CraneConfig.bearer h).symm

theorem keeps_storeCrane {l : Link} {c : CraneConfig} (hlen : c.template.length ≤ 64)
    (hzero : c.enable = true → c.bearer ≠ 0) (htest : craneTest l s c = .ok) : Keeps x s (storeCrane l c s) := by
  unfold craneTest at htest
  simp only at htest
  split at htest
  · cases htest
  next hbad =>
    have hbearer : c.enable = true → (s.bearer c.bearer.toNat).treatment = .crane l := fun he => by
      simpa [State.badBearer, he] using hbad
    unfold storeCrane
    simp only
    split
    next hidle =>
      have hfree : ¬ (s.link l).isHeld := fun h => h.ne_idle hidle
      split
      next he =>
        refine .of_setLink (.of_free (fun h => ?_) hfree fun h => ⟨hlen, by simp [CraneLink.armed]⟩) ?_
        · obtain ⟨-, h2, -⟩ := h
          have hp : (s.link l).commitPending = false := by
            simpa [CraneLink.isWorking, hidle] using h2
          simp [CraneLink.legal, CraneLink.isHeld, CraneLink.isWorking, CraneLink.armed, he, hp]
        · rintro ⟨h1, h2, h3⟩
          refine ⟨fun m => ?_, h2, fun m => ?_⟩
          · rw [State.link_setLink]
            split
            next e => subst e; exact fun _ => ⟨hzero he, hbearer he⟩
            next => exact h1 m
          · rw [State.link_setLink]
            split
            next e => exact fun h => absurd h (CraneLink.not_isHeld_of_working (.inl rfl))
            next => exact h3 m
      next he =>
        refine .of_setLink (.of_free (fun h => ?_) hfree fun h => ⟨hlen, h.2⟩) fun h =>
          h.of_setLink (fun hv => absurd hidle hv) fun hv => hv
        have he : c.enable = false := by simpa using he
        exact ⟨⟨fun e => by simp [he] at e, fun e => absurd hidle e⟩, h.2⟩
    next hidle =>
      rw [if_neg hidle] at htest
      split at htest
      · cases htest
      next hlevels =>
        have hsame := CraneConfig.withLevels_fields (c := (s.link l).config) (d := c) (by simpa using hlevels)
        have hset : ∀ y, (¬ y.rewrites l → c.enable = true) → Keeps y s (s.setLink l { s.link l with config := c }) :=
          fun y hy => .of_setLink_same ⟨fun hn h => ⟨⟨fun _ => hidle, fun _ => hy hn⟩, h.2⟩, fun _ h => h,
            fun _ h => ⟨hlen, h.2⟩⟩ rfl hsame
        split
        next he => exact hset x fun _ => he
        next he =>
          split at htest
          · cases htest
          next hheld =>
            have he : c.enable = false := by simpa using he
            have hfree : ¬ (s.link l).isHeld := fun h => hheld (by simp [he]; exact h)
            unfold enterIdle
            simp only
            refine Keeps.finish_rewriting (l := l) ?_ fun _ h => ?_
            · refine .after (.of_setLink ⟨fun h => absurd (.inl rfl) h, fun _ h => ?_, fun _ h => ⟨h.1, by
                simp [CraneLink.idled]⟩⟩ fun h => h.of_setLink (fun h => absurd rfl h) fun h => ?_)
                ((hset _ fun h => absurd (.inl rfl) h).trans (keeps_applyPending ..))
              · rw [applyPending_link, if_pos rfl, State.link_setLink, if_pos rfl] at h
                exact absurd h hfree
              · exact absurd rfl h.ne_idle
            · rw [State.link_setLink, if_pos rfl, applyPending_link, if_pos rfl, State.link_setLink, if_pos rfl]
              obtain ⟨-, -, h3, h4, h5, -⟩ := h
              have h3 : (s.link l).reason = .none := by
                by_contra hn
                exact hfree (h3.1 hn)
              have h4 : (s.link l).releaseExpiry = none := by
                by_contra hn
                exact hfree (.inr (h4.1 (Option.isSome_iff_ne_none.2 hn)))
              have h5 : (s.link l).nextHold = none := by
                by_contra hn
                exact hfree (h5.1 (Option.isSome_iff_ne_none.2 hn))
              simp [CraneLink.legal, CraneLink.isHeld, CraneLink.isWorking, CraneLink.idled, CraneLink.committed, he,
                h3, h4, h5]

theorem keeps_writeCrane (index : Nat) (f : CraneFields) (s : State) : Keeps x s (writeCrane index f s).2 := by
  unfold writeCrane
  split
  · refine keeps_writeEntry fun c hc _ htest => ?_
    obtain ⟨h1, h2⟩ := readCrane_some hc
    exact keeps_storeCrane h1 h2 htest
  · exact .refl x s

theorem keeps_clearCranes (first count : Nat) (s : State) :
    Keeps x s (clearEntries 16 first count (if s.workingRange first count then .busy else .ok)
      (clearCraneRange first count) s).2 := by
  refine keeps_clearEntries fun _ htest => ?_
  split at htest
  · cases htest
  next hworking =>
    have hidle : ∀ k, first ≤ k → k < first + count → (s.links.get k).state = .idle := fun k h1 h2 => by
      by_contra hn
      refine hworking (List.any_eq_true.2 ⟨k - first, ?_, ?_⟩)
      · simp only [List.mem_range]; omega
      · rw [show first + (k - first) = k by omega]; simp [hn]
    unfold clearCraneRange
    refine .of_links (fun l => ?_) (fun l => ?_) (fun l => ?_) (Table.wf_modifyRange _ _ _ _) <;>
      rw [Table.get_modifyRange]
    · split
      next hr =>
        have hi := hidle l.val hr.1 hr.2
        refine .of_free (fun h => ?_) (fun h => h.ne_idle hi) fun h =>
          ⟨(by decide : CraneConfig.cold.template.length ≤ 64), h.2⟩
        exact ⟨⟨fun e => by simp [CraneConfig.cold] at e, fun e => absurd hi e⟩, h.2⟩
      next => exact ⟨fun _ => id, fun _ => id, fun _ => id⟩
    · split <;> rfl
    · split
      next hr => exact fun h => absurd (hidle l.val hr.1 hr.2) h
      next => exact fun _ => rfl

end Sys2Proof.Machine

/-! PROOFS. What the rest of the commands keep: the slots, the orders, the statistics, the two resets; and so what every
command and every step keeps. -/

namespace Sys2Proof.Machine

variable {x : Licence} {s u : State}

/-! ### REEFERS (R134, R135, R139) -/

/-- Slots that take their NEVER values leave the change list. -/
theorem keeps_neverSlots {t : Table ReeferSlot} (first count : Nat)
    (hget : ∀ i : Slot, inRange first count i.val → (t.get i.val).record = .never)
    (hother : ∀ i : Slot, ¬ inRange first count i.val → t.get i.val = s.slot i)
    (hw : s.registry.slots.wf = true → t.wf = true)
    (hx : ∀ i : Slot, inRange first count i.val → x.writes i)
    (hz : x.fits → ∀ i : Slot, inRange first count i.val → (t.get i.val).config.mark.length = 11) :
    Keeps x s { s with registry := { s.registry with
      slots := t, changeList := dropChanged s.registry.changeList first count } } := by
  have hmemList : ∀ i : Slot, i ∈ dropChanged s.registry.changeList first count ↔
      i ∈ s.registry.changeList ∧ ¬ inRange first count i.val := fun i => by
    simp only [dropChanged, inRange, List.mem_filter, Bool.not_eq_true', Bool.and_eq_false_iff,
      decide_eq_false_iff_not]
    exact and_congr_right fun _ => not_and_or.symm
  refine .of_registry (fun ⟨hnodup, hmem, harmed, hbound⟩ => ⟨?_, fun i => ?_, fun i => ?_, fun i => ?_⟩) (fun i hi h => ?_)
    (fun h => ⟨hw h.1, h.2⟩) fun hf h i => ?_
  · exact hnodup.sublist List.filter_sublist
  · show i ∈ dropChanged s.registry.changeList first count ↔ (t.get i.val).record.changed = true
    rw [hmemList]
    by_cases hr : inRange first count i.val
    · rw [hget i hr]; simp [hr, ReeferRecord.never]
    · rw [hother i hr, hmem]; simp [hr]
  · show (t.get i.val).record.changed = true ∨ (t.get i.val).record.stale ≠ none ∨ (t.get i.val).record.lost ≠ none →
      (t.get i.val).config.registered = true
    by_cases hr : inRange first count i.val
    · rw [hget i hr]; simp [ReeferRecord.never]
    · rw [hother i hr]; exact harmed i
  · show (t.get i.val).record.excursion ≤ _
    by_cases hr : inRange first count i.val
    · rw [hget i hr]; decide
    · rw [hother i hr]; exact hbound i
  · have hr : ¬ inRange first count i.val := fun hr => hi (hx i hr)
    rw [hother i hr]
    exact ⟨Nat.le_refl _, h⟩
  · by_cases hr : inRange first count i.val
    · exact ⟨hz hf i hr, by rw [hget i hr]; decide⟩
    · rw [hother i hr]; exact h i

theorem readReefer_mark {f : ReeferFields} {c : ReeferConfig} (h : readReefer f = some c) : c.mark = f.mark := by
  unfold readReefer at h
  obtain ⟨r, -, h⟩ := Option.bind_eq_some_iff.1 h
  obtain ⟨g, -, h⟩ := Option.bind_eq_some_iff.1 h
  split at h
  · split at h
    · injection h with h; rw [← h]
    · cases h
  · cases h

theorem keeps_writeReefers {index : Nat} {f : ReeferFields} (hx : ∀ i : Slot, i.val = index → x.writes i)
    (hf : x.fits → f.mark.length = 11) :
    Keeps x s (writeEntry 2048 index (readReefer f) (fun _ => .ok) (storeReefer index) s).2 := by
  refine keeps_writeEntry fun c hc hi _ => ?_
  have hsame : ∀ i : Slot, inRange index 1 i.val ↔ i.val = index := fun i => by unfold inRange; omega
  refine keeps_neverSlots index 1 (fun i hr => ?_) (fun i hr => ?_) (Table.wf_set _ _ _)
    (fun i hr => hx i ((hsame i).1 hr)) fun hfit i hr => ?_ <;> rw [Table.get_set]
  · rw [if_pos ((hsame i).1 hr)]
  · rw [if_neg fun e => hr ((hsame i).2 e)]; rfl
  · rw [if_pos ((hsame i).1 hr), readReefer_mark hc]
    exact hf hfit

theorem keeps_clearReeferRange {first count : Nat} (hx : ∀ i : Slot, inRange first count i.val → x.writes i) :
    Keeps x s (clearReeferRange first count s) := by
  refine keeps_neverSlots first count (fun i hr => ?_) (fun i hr => ?_) (Table.wf_fill _ _ _ _) hx fun _ i hr => ?_ <;>
    rw [Table.get_fill]
  · rw [if_pos hr]; rfl
  · rw [if_neg hr]; rfl
  · rw [if_pos hr]; rfl

/-! ### Orders (R62, R80 to R82) -/

theorem keeps_commitLink (now : Bool) (l : Link) (s : State) : Keeps x s (commitLink now l s) := by
  unfold commitLink
  split
  · simp only
    split
    · exact keeps_applyCommit l s
    · exact .after (.of_setLink_same (.of_fields rfl rfl rfl rfl rfl rfl rfl rfl rfl rfl rfl rfl) rfl rfl)
        (keeps_applyCommit l s)
  · split
    next hw =>
      refine .of_setLink_same (.of_legal (fun h => ?_) rfl rfl rfl rfl) rfl rfl
      exact ⟨h.1, fun _ => hw, h.2.2⟩
    next => exact keeps_applyCommit l s

theorem keeps_holdLink (l : Link) (s : State) : Keeps x s (holdLink l s) := by
  unfold holdLink
  split
  case h_1 => exact .refl x s
  case h_2 => exact .refl x s
  case h_3 h => exact keeps_returned (.inl (by decide)) h
  case h_4 h => exact keeps_enterHold (by decide) (by rw [h]; decide)
  case h_5 h => exact keeps_enterHold (by decide) (by rw [h]; decide)
  case h_6 h => exact keeps_enterHold (by decide) (by rw [h]; decide)

theorem keeps_orderLinks {mask : BitVec 16} {act : Link → State → State} {found : State → Link → Bool}
    (h : ∀ l s, Keeps x s (act l s)) (s : State) : Keeps x s (orderLinks mask act found s).2 := by
  unfold orderLinks
  split
  · exact .refl x s
  · exact .foldl (fun s l => h l s) _ s

/-! ### Statistics Clear (R189) -/

theorem FrameStore.port_mapPorts (st : FrameStore) (f : PortState → PortState) (p : Port) :
    ({ st with ports := st.ports.map f } : FrameStore).port p = f (st.port p) := Table.get_map ..

/-- Ports and queues changed by functions that leave entries and blocks alone. -/
theorem StoreKeeps.of_maps {may : Port → Class → Origin → Prop} {settings : Table Nat} {st st' : FrameStore}
    (hp : ∀ p, (st'.port p).txBlocks = (st.port p).txBlocks)
    (hq : ∀ p c, (st'.queue p c).entries = (st.queue p c).entries) (hf : st'.free = st.free)
    (hw : st.ports.wf = true ∧ st.queues.wf = true → st'.ports.wf = true ∧ st'.queues.wf = true) :
    StoreKeeps may settings st st' where
  whole := by
    simp only [FrameStore.held, FrameStore.portBlocks_eq, hp, hq, hf, allPorts, List.map_cons, List.map_nil]
  wf := hw
  length p c := .inl (by rw [hq])
  entries p c e he := .inl ⟨e, hq p c ▸ he, rfl⟩

theorem StoreKeeps.cleared (may : Port → Class → Origin → Prop) (settings : Table Nat) (st : FrameStore) :
    StoreKeeps may settings st st.cleared :=
  .of_maps (fun p => by
      rw [show st.cleared.port p = (st.port p).cleared from Table.get_map ..]; rfl)
    (fun p c => by rw [show st.cleared.queue p c = (st.queue p c).cleared from Table.get_map ..]; rfl) rfl
    fun _ => ⟨Table.wf_map .., Table.wf_map ..⟩

theorem keeps_clearStatistics (s : State) : Keeps x s (clearStatistics s) := by
  have hbearers : ∀ y s, Keeps y s { s with classifier := { s.classifier with
      bearers := s.classifier.bearers.map Descriptor.cleared } } := fun y s =>
    .of_bearers (fun ⟨hlevel, hnull⟩ => ⟨fun i => by rw [Table.get_map]; exact hlevel i,
        by rw [Table.get_map]; exact congrArg Descriptor.cleared hnull⟩)
      (fun _ => Table.wf_map ..) fun l _ _ h => by rw [Table.get_map]; exact h
  have hcounts : ∀ y s, Keeps y s { s with classifier := { s.classifier with counts := .all .zero } } := fun y s =>
    { Keeps.refl y s with pending := rfl, canonical := fun ⟨a, b, c, _, e⟩ => ⟨a, b, c, rfl, e⟩ }
  have hstore : ∀ y s, Keeps y s { s with store := s.store.cleared } := fun y s =>
    .of_store (.cleared ..) fun p => by
      rw [show s.store.cleared.port p = (s.store.port p).cleared from Table.get_map ..]; rfl
  have hlinks : ∀ y s, Keeps y s { s with links := s.links.map fun k => { k with counts := .zero } } := fun y s => by
    refine .of_links (fun l => ?_) (fun l => ?_) (fun l => ?_) (fun _ => Table.wf_map ..) <;> rw [Table.get_map]
    · exact .of_fields rfl rfl rfl rfl rfl rfl rfl rfl rfl rfl rfl rfl
    · rfl
    · exact fun _ => rfl
  have hregistry : ∀ y s, Keeps y s { s with registry := s.registry.cleared } := fun y s => by
    have hslot : ∀ i : Slot, s.registry.cleared.slots.get i.val = (s.slot i).cleared := fun i => Table.get_map ..
    refine .of_registry (fun ⟨h1, h2, h3, h4⟩ => ⟨h1, fun i => ?_, fun i => ?_, fun i => ?_⟩) (fun i _ h => ?_)
      (fun h => ⟨Table.wf_map .., h.2⟩) fun _ h i => ?_
    · show _ ↔ (s.registry.cleared.slots.get i.val).record.changed = true
      rw [hslot]; exact h2 i
    · show (s.registry.cleared.slots.get i.val).record.changed = true ∨
        (s.registry.cleared.slots.get i.val).record.stale ≠ none ∨
        (s.registry.cleared.slots.get i.val).record.lost ≠ none →
        (s.registry.cleared.slots.get i.val).config.registered = true
      rw [hslot]; exact h3 i
    · show (s.registry.cleared.slots.get i.val).record.excursion ≤ _
      rw [hslot]; exact h4 i
    · rw [hslot]; exact ⟨Nat.le_refl _, h⟩
    · rw [hslot]; exact h i
  have hcoverage : ∀ y s, Keeps y s { s with coverage := s.coverage.cleared } := fun y s => .of_coverage id id
  have hnotices : ∀ y s, Keeps y s { s with notices := s.notices.cleared } := fun y s => .of_notices id
  have hcapture : ∀ y s, Keeps y s { s with capture := s.capture.cleared } := fun y s => .of_capture id
  have hendpoint : ∀ y s, Keeps y s { s with endpoint := s.endpoint.cleared } := fun y s =>
    .of_endpoint_counts rfl rfl rfl
  exact (hbearers _ _).trans <| (hcounts _ _).trans <| (hstore _ _).trans <| (hlinks _ _).trans <|
    (hcoverage _ _).trans <| (hregistry _ _).trans <| (Keeps.of_summary _).trans <| (hnotices _ _).trans <|
    (hcapture _ _).trans <| (hendpoint _ _)

/-! ### The capture commands (R174, R175) -/

theorem keeps_armCapture (f : CaptureFields) (s : State) : Keeps x s (armCapture f s).2 := by
  unfold armCapture
  split
  · exact .refl x s
  · exact .of_capture fun _ => by simp [CaptureUnit.arm]

/-! ### The warm restart (R190) -/

theorem StoreKeeps.flushPort (may : Port → Class → Origin → Prop) (settings : Table Nat) (st : FrameStore) (p : Port) :
    StoreKeeps may settings st (st.flushPort p) := by
  unfold FrameStore.flushPort
  simp only
  refine .trans ?_ (.resetTurn ..)
  refine .trans ?_ (.dropAt ..)
  split
  · exact .refl ..
  · exact .cutOff ..

theorem QueueEntry.settled_blocks (e : QueueEntry) : e.settled.blocks = e.blocks := by
  unfold QueueEntry.settled; split <;> rfl

theorem QueueEntry.settled_origin (e : QueueEntry) : e.settled.origin = e.origin ∨ e.settled.origin = .reply := by
  unfold QueueEntry.settled
  split
  · exact .inr rfl
  · exact .inl rfl

theorem blocksHeld_map_settled (l : List QueueEntry) : blocksHeld (l.map QueueEntry.settled) = blocksHeld l := by
  induction l with
  | nil => rfl
  | cons e l ih => simp [ih, QueueEntry.settled_blocks]

theorem StoreKeeps.settleReply {may : Port → Class → Origin → Prop} (hm : may .y 1 .reply) (settings : Table Nat)
    (st : FrameStore) : StoreKeeps may settings st st.settleReply := by
  unfold FrameStore.settleReply
  simp only
  refine .trans ?_ (.setPort ?_)
  · refine ⟨?_, fun ⟨hp, hq⟩ => ⟨hp, Table.wf_set _ _ _ hq⟩, fun p c => ?_, fun p c e he => ?_⟩
    · have := st.held_setQueue .y 1 { st.queue .y 1 with entries := (st.queue .y 1).entries.map QueueEntry.settled }
      simp only [blocksHeld_map_settled, FrameStore.setQueue_free] at this ⊢
      omega
    · rw [FrameStore.queue_setQueue]
      split
      next e => obtain ⟨rfl, rfl⟩ := e; simp
      next => exact .inl (Nat.le_refl _)
    · rw [FrameStore.queue_setQueue] at he
      split at he
      next e' =>
        obtain ⟨rfl, rfl⟩ := e'
        obtain ⟨f, hf, rfl⟩ := List.mem_map.1 he
        rcases f.settled_origin with ho | ho
        · exact .inl ⟨f, hf, ho.symm⟩
        · exact .inr (ho ▸ hm)
      next => exact .inl ⟨e, he, rfl⟩
  · rw [FrameStore.port_setQueue]
    cases h : (st.port .y).tx <;> simp [PortState.txBlocks, h, QueueEntry.settled_blocks]

theorem FrameStore.up_flushPort (st : FrameStore) (p q : Port) : ((st.flushPort p).port q).up = (st.port q).up := by
  unfold FrameStore.flushPort
  simp only [FrameStore.up_resetTurn, FrameStore.port_dropAt]
  split
  · rfl
  · exact FrameStore.up_cutOff ..

/-- The Frame Store after the traffic of every port has been flushed (R45). -/
def FrameStore.flushed (st : FrameStore) : FrameStore := allPorts.foldl FrameStore.flushPort st

theorem FrameStore.restarted_eq (st : FrameStore) (settings : Table Nat) :
    st.restarted settings = ({ st.flushed with least := st.flushed.free } : FrameStore).settleReply.select settings .y :=
  rfl

theorem FrameStore.up_flushed (st : FrameStore) (q : Port) : (st.flushed.port q).up = (st.port q).up := by
  unfold FrameStore.flushed
  generalize allPorts = l
  induction l generalizing st with
  | nil => rfl
  | cons p l ih => rw [List.foldl_cons, ih, FrameStore.up_flushPort]

theorem StoreKeeps.restarted {may : Port → Class → Origin → Prop} (hm : may .y 1 .reply) (settings weights : Table Nat)
    (st : FrameStore) : StoreKeeps may settings st (st.restarted weights) := by
  rw [FrameStore.restarted_eq]
  have hflush : StoreKeeps may settings st st.flushed := .foldl _ (.flushPort may settings) allPorts st
  generalize st.flushed = st' at hflush ⊢
  have hleast : StoreKeeps may settings st' { st' with least := st'.free } :=
    ⟨rfl, id, fun _ _ => .inl (Nat.le_refl _), fun _ _ e he => .inl ⟨e, he, rfl⟩⟩
  exact ((hflush.trans hleast).trans (.settleReply hm settings _)).trans (.select ..)

theorem FrameStore.up_settleReply (st : FrameStore) (q : Port) : (st.settleReply.port q).up = (st.port q).up := by
  unfold FrameStore.settleReply
  exact FrameStore.up_setPort (st := st.setQueue _ _ _) (by rfl) q

theorem FrameStore.up_restarted (st : FrameStore) (settings : Table Nat) (q : Port) :
    ((st.restarted settings).port q).up = (st.port q).up := by
  have hflush := st.up_flushed q
  rw [FrameStore.restarted_eq, FrameStore.up_select, FrameStore.up_settleReply]
  generalize st.flushed = st' at hflush ⊢
  exact hflush

theorem keeps_restartBlocks (hx : ∀ i, x.writes i) (s : State) : Keeps x s (restartBlocks s) := by
  have hclassifier : ∀ s, Keeps x s { s with classifier := s.classifier.restarted s.quayTime } := fun s => by
    refine .of_bearers (b := (s.classifier.bearers.map fun d => d.restarted s.quayTime).set 0 .cold)
      (fun h => ⟨fun i => ?_, ?_⟩) (fun _ => Table.wf_set _ _ _ (Table.wf_map ..)) fun l _ h0 h => ?_
    · rw [Table.get_set]
      split
      · exact Nat.zero_le _
      · rw [Table.get_map]; exact Nat.le_refl _
    · rw [Table.get_set_same]
    · have hne : (s.link l).config.bearer.toNat ≠ 0 := fun e => h0 (BitVec.eq_of_toNat_eq e)
      rw [Table.get_set_other _ _ hne, Table.get_map]
      exact h
  have hstore : ∀ s, Keeps x s { s with store := s.store.restarted s.settings } := fun s => by
    have hk := StoreKeeps.restarted (may := s.waits) (fun _ => s.mayWait_composed _ _ (by simp) (by simp)) s.settings
      s.settings s.store
    have hup := s.store.up_restarted s.settings
    generalize s.store.restarted s.settings = st at hk hup ⊢
    exact .of_store hk hup
  have hcoverage : ∀ s, Keeps x s { s with coverage := { s.coverage with
      entries := s.coverage.entries.map CoverEntry.restarted } } := fun s =>
    .of_coverage (fun _ => Table.wf_map ..) fun h i => by
      rw [Table.get_map]
      exact ⟨(h i).1, Nat.zero_le _, fun _ => rfl, by simp [CoverEntry.restarted]⟩
  have hregistry : ∀ s, Keeps x s { s with registry := { s.registry with
      slots := s.registry.slots.map ReeferSlot.restarted, changeList := [] } } := fun s => by
    have hslot : ∀ i : Slot, (s.registry.slots.map ReeferSlot.restarted).get i.val = (s.slot i).restarted := fun i =>
      Table.get_map ..
    refine .of_registry (fun _ => ⟨List.nodup_nil, fun i => ?_, fun i => ?_, fun i => ?_⟩) (fun i hi => absurd (hx i) hi)
      (fun h => ⟨Table.wf_map .., h.2⟩) fun _ h i => ?_
    · show _ ↔ ((s.registry.slots.map ReeferSlot.restarted).get i.val).record.changed = true
      rw [hslot]; simp [ReeferSlot.restarted, ReeferRecord.never]
    · show ((s.registry.slots.map ReeferSlot.restarted).get i.val).record.changed = true ∨
        ((s.registry.slots.map ReeferSlot.restarted).get i.val).record.stale ≠ none ∨
        ((s.registry.slots.map ReeferSlot.restarted).get i.val).record.lost ≠ none → _
      rw [hslot]; simp [ReeferSlot.restarted, ReeferRecord.never]
    · show ((s.registry.slots.map ReeferSlot.restarted).get i.val).record.excursion ≤ _
      rw [hslot]; exact Nat.zero_le _
    · rw [hslot]; exact ⟨(h i).1, Nat.zero_le _⟩
  have hnotices : ∀ s, Keeps x s { s with notices := { s.notices with queue := [], pacing := none } } := fun s =>
    .of_notices fun _ => ⟨Nat.zero_le _, nofun⟩
  have hcapture : ∀ s, Keeps x s { s with capture := s.capture.restarted } := fun s => .of_capture fun _ => Nat.zero_le _
  have hendpoint : ∀ s, Keeps x s { s with endpoint := { s.endpoint with requests := [], executing := none } } :=
    fun s => .of_endpoint id (fun _ => Nat.zero_le _) nofun nofun
  have hblocks : ∀ c st, Keeps x s { s with classifier := c } →
      Keeps x { s with classifier := c } { s with classifier := c, store := st } →
      Keeps x s { s with
        classifier := c, store := st
        coverage := { s.coverage with entries := s.coverage.entries.map CoverEntry.restarted }
        registry := { s.registry with slots := s.registry.slots.map ReeferSlot.restarted, changeList := [] }
        summary := s.summary.restarted s.quayTime (s.setting 48)
        notices := { s.notices with queue := [], pacing := none }
        capture := s.capture.restarted
        endpoint := { s.endpoint with requests := [], executing := none } } := fun c st hc hs =>
    hc.trans <| hs.trans <| (hcoverage _).trans <| (hregistry _).trans <|
      (Keeps.of_summary (s.summary.restarted s.quayTime (s.setting 48))).trans <| (hnotices _).trans <|
      (hcapture _).trans (hendpoint _)
  have hstore' : ∀ c, Keeps x { s with classifier := c } { s with
      classifier := c, store := s.store.restarted s.settings } := fun c => hstore { s with classifier := c }
  exact hblocks _ _ (hclassifier s) (hstore' _)

theorem CraneLink.legal.armed {k : CraneLink} (h : k.legal) (hs : k.state ≠ .idle) (hp : k.commitPending = false) :
    k.armed.legal := by
  have he := h.1.2 hs
  simp [CraneLink.legal, CraneLink.isHeld, CraneLink.isWorking, CraneLink.armed, he, hp]

theorem CraneLink.legal.stillHeld {k : CraneLink} (h : k.legal) (hs : k.isHeld) : k.stillHeld.legal := by
  simp only [CraneLink.legal, CraneLink.isHeld, CraneLink.isWorking, CraneLink.stillHeld] at h hs ⊢
  rcases hs with hs | hs <;> simp_all

theorem keeps_restartLink (l : Link) (s : State) : Keeps x s (restartLink l s) := by
  have harmed : (s.link l).state = .arming ∨ (s.link l).isWorking →
      Keeps x s ((applyPending l s).setLink l ((applyPending l s).link l).armed) := fun hs => by
    have hi : (s.link l).state ≠ .idle := by rcases hs with h | h | h <;> rw [h] <;> decide
    have hf : ¬ (s.link l).isHeld := CraneLink.not_isHeld_of_working hs
    have hlink : (applyPending l s).link l = (s.link l).committed := by rw [applyPending_link, if_pos rfl]
    refine (keeps_applyPending l s).trans (.of_setLink (.of_free ?_ ?_ ?_) fun h => h.of_setLink ?_ ?_) <;> rw [hlink]
    · exact fun h => h.armed hi rfl
    · exact hf
    · exact fun h => ⟨h.1, by simp [CraneLink.armed]⟩
    · exact fun _ => ⟨hi, rfl⟩
    · exact fun h => absurd h (CraneLink.not_isHeld_of_working (.inl rfl))
  have hstill : (s.link l).isHeld → Keeps x s (s.setLink l (s.link l).stillHeld) := fun hs =>
    .of_setLink ⟨fun _ h => h.stillHeld hs, fun _ _ => .inl rfl, fun _ h => ⟨h.1, h.2.1, by simp [CraneLink.stillHeld]⟩⟩
      fun h => h.of_setLink (fun _ => ⟨hs.ne_idle, rfl⟩) fun _ => hs
  unfold restartLink
  split
  case h_1 => exact .refl x s
  case h_2 h => exact harmed (.inl h)
  case h_3 h => exact harmed (.inr (.inl h))
  case h_4 h => exact harmed (.inr (.inr h))
  case h_5 h => exact hstill (.inl h)
  case h_6 h => exact hstill (.inr h)

theorem keeps_restartHold (l : Link) (s : State) : Keeps x s (restartHold l s) := by
  unfold restartHold
  split
  next hs =>
    have hstate : ((holdAttempt l s).link l).state = .hold := by
      rcases holdAttempt_link_cases l s with h | h <;> rw [h] <;> exact hs
    refine (keeps_holdAttempt l s).trans (.of_setLink_same (.of_legal (fun h => ?_) rfl rfl rfl rfl) rfl rfl)
    obtain ⟨h1, h2, h3, h4, -, h6⟩ := h
    exact ⟨h1, h2, h3, h4, ⟨fun _ => .inl hstate, fun _ => rfl⟩, h6⟩
  next => exact .refl x s

theorem keeps_warmRestart (hx : ∀ i, x.writes i) (s : State) : Keeps x s (warmRestart s) :=
  ((keeps_restartBlocks hx s).trans (.foldl (fun s l => keeps_restartLink l s) _ _)).trans
    (.foldl (fun s l => keeps_restartHold l s) _ _)

theorem keeps_orderRestart (hx : ∀ i, x.writes i) (s : State) : Keeps x s (orderRestart s) := by
  unfold orderRestart
  simp only
  split
  · exact (keeps_showAnswer ..).trans (keeps_warmRestart hx _)
  · exact ((keeps_showAnswer ..).trans (keeps_endRequest (by simp) (by simp) _ _)).trans (keeps_warmRestart hx _)

theorem keeps_restart (hx : ∀ i, x.writes i) (s : State) : ∃ t, execRestart s = .next t ∧ Keeps x s t := by
  refine ⟨_, rfl, ?_⟩
  split
  · exact keeps_orderRestart hx s
  · next e he =>
    split
    · exact keeps_settle _ (.refl x s) he
    · exact keeps_orderRestart hx s

end Sys2Proof.Machine

/-! PROOFS. What every command and every step keeps, and the machine right after a cold reset: the laws O4, O10 to O12,
O22, O24 to O26, O41, O45 and O49, and the queue of commands (O1, O2). -/

namespace Sys2Proof.Machine

variable {x : Licence} {s : State}

/-! ### The machine after a cold reset -/

theorem coldValue_of_ne_zero (id id' : Identity) {i : Nat} (h : i ≠ 0) :
    Settings.coldValue id i = Settings.coldValue id' i := by
  unfold Settings.coldValue
  rw [if_neg h, if_neg h]

/-- Every cold value is in its setting's range (R187). -/
theorem coldValue_inRange (id : Identity) {i : Nat} (h : i < 54) :
    (settingRange i).1 ≤ Settings.coldValue id i ∧ Settings.coldValue id i ≤ (settingRange i).2 := by
  have key : ∀ j : Fin 54, j.val ≠ 0 → (settingRange j.val).1 ≤ Settings.coldValue Config.identity j.val ∧
      Settings.coldValue Config.identity j.val ≤ (settingRange j.val).2 := by decide
  by_cases h0 : i = 0
  · subst h0
    have := id.defaultBearerEtherType.isLt
    exact ⟨Nat.zero_le _, by show id.defaultBearerEtherType.toNat ≤ 65535; omega⟩
  · rw [coldValue_of_ne_zero id Config.identity h0]
    exact key ⟨i, h⟩ h0

theorem wf_coldSettings (id : Identity) : (Settings.cold id).wf = true := by
  have key : ∀ (l : List Nat) (t : Table Nat), t.wf = true →
      (l.foldl (fun t i => t.set i (Settings.coldValue id i)) t).wf = true := by
    intro l
    induction l with
    | nil => exact fun _ h => h
    | cons i l ih => exact fun _ h => ih _ (Table.wf_set _ _ _ h)
  exact key _ _ rfl

section Cold
variable (id : Identity)

theorem cold_poolWhole : (State.cold id).poolWhole := rfl

theorem cold_limitsKept : (State.cold id).limitsKept := by
  refine ⟨fun i hi => ?_, fun p c => Nat.zero_le _⟩
  show _ ≤ (Settings.cold id).get i ∧ (Settings.cold id).get i ≤ _
  rw [Settings.get_cold id hi]
  exact coldValue_inRange id hi

theorem cold_flagsTrue : (State.cold id).flagsTrue := ⟨fun _ => rfl, rfl⟩

theorem cold_bearersLegal : (State.cold id).bearersLegal := ⟨fun _ => Nat.zero_le _, rfl⟩

theorem cold_link_legal (l : Link) : ((State.cold id).link l).legal := by
  show CraneLink.cold.legal
  simp [CraneLink.legal, CraneLink.isHeld, CraneLink.isWorking, CraneLink.cold, CraneConfig.cold]

theorem cold_heldQuiet : (State.cold id).heldQuiet :=
  ⟨fun _ h => absurd rfl h, fun _ _ _ he => absurd he List.not_mem_nil, fun _ h => absurd rfl h.ne_idle⟩

theorem cold_coverLegal : (State.cold id).coverLegal := fun i => by
  show CoverEntry.cold.legal
  simp [CoverEntry.legal, CoverEntry.cold]

theorem cold_listExact : (State.cold id).listExact := by
  refine ⟨List.nodup_nil, fun i => ?_, fun i => ?_, fun i => Nat.zero_le _⟩
  · show i ∈ [] ↔ ReeferSlot.cold.record.changed = true
    simp [ReeferSlot.cold, ReeferRecord.never]
  · show ReeferSlot.cold.record.changed = true ∨ ReeferSlot.cold.record.stale ≠ none ∨
      ReeferSlot.cold.record.lost ≠ none → _
    simp [ReeferSlot.cold, ReeferRecord.never]

theorem cold_noticesLegal : (State.cold id).noticesLegal := ⟨Nat.zero_le _, nofun⟩

theorem cold_buffersLegal : (State.cold id).buffersLegal := ⟨Nat.zero_le _, Nat.zero_le _⟩

theorem cold_sizesLegal : (State.cold id).sizesLegal :=
  ⟨fun _ => ⟨(by decide : CraneConfig.cold.template.length ≤ 64), Nat.zero_le _, Nat.zero_le _⟩,
    fun _ => ⟨rfl, Nat.zero_le _⟩, nofun, nofun, nofun⟩

theorem cold_canonical : (State.cold id).canonical :=
  ⟨wf_coldSettings id, rfl, rfl, rfl, rfl, rfl, rfl, rfl, rfl, rfl, rfl, rfl, rfl, rfl⟩

end Cold

/-- A cold reset leads to a state that keeps every law, whatever the state before. -/
theorem keeps_coldReset (hx : ∀ i, x.writes i) (hr : ∀ l, x.releases l) (s : State) :
    ∃ t, execColdReset s = .next t ∧ Keeps x s t :=
  ⟨_, rfl,
    { pending := rfl
      pool := fun _ => cold_poolWhole s.identity
      limits := fun _ => cold_limitsKept s.identity
      flags := fun _ => cold_flagsTrue s.identity
      canonical := fun _ => cold_canonical s.identity
      bearers := fun _ => cold_bearersLegal s.identity
      legal := fun l _ _ => cold_link_legal s.identity l
      held := fun l h => absurd (hr l) h
      quiet := fun _ => cold_heldQuiet s.identity
      cover := fun _ => cold_coverLegal s.identity
      list := fun _ => cold_listExact s.identity
      excursion := fun i h => absurd (hx i) h
      notices := fun _ => cold_noticesLegal s.identity
      buffers := fun _ => cold_buffersLegal s.identity
      sizes := fun _ h => by
        obtain ⟨h1, h2, -, h4⟩ := cold_sizesLegal s.identity
        exact ⟨h1, h2, h.2.2.1, h4⟩ }⟩

/-! ### Every command -/

/-- A command sets a slot to its NEVER values. -/
def Instr.clears (c : Instr) (i : Slot) : Prop :=
  (∃ f, c = .writeReefers i.val f) ∨ (∃ first count, inRange first count i.val ∧ c = .clearReefers first count) ∨
  c = .restart ∨ c = .coldReset

/-- What a command may do in a state: it clears the slots it names, and takes out of HOLD and RELEASING the links that
are in RELEASING, a cold reset all of them. -/
def Instr.licence (c : Instr) (s : State) : Licence where
  fits := c.wellFormed = true
  writes := Instr.clears c
  releases l := (s.link l).state = .releasing ∨ c = .coldReset
  rewrites _ := False

/-- A command that shows a result and does no more. -/
theorem keeps_reading {owner : State → Ruling × State} (code : Byte) (size : Nat) (h : (owner s).2 = s) :
    ∃ t, Host.Outcome.next (runCommand code size owner s) = (.next t : Host.Outcome State Fault Refusal) ∧ Keeps x s t :=
  ⟨_, rfl, keeps_runCommand _ _ (by rw [h]; exact .refl x s)⟩

/-- Reading a table changes nothing. -/
theorem readTable_keeps (table first count : Nat) (s : State) : (readTable table first count s).2 = s := by
  unfold readTable
  split
  · rfl
  · split <;> rfl

/-- Every command answers a next state and keeps every law under its licence. -/
theorem keeps_exec (c : Instr) (s : State) : ∃ t, exec c s = .next t ∧ Keeps (Instr.licence c s) s t := by
  have hrun : ∀ {x : Licence} {owner : State → Ruling × State} (code : Byte) (size : Nat), Keeps x s (owner s).2 →
      ∃ t, (Host.Outcome.next (runCommand code size owner s) : Host.Outcome State Fault Refusal) = .next t ∧
        Keeps x s t := fun code size h => ⟨_, rfl, keeps_runCommand code size h⟩
  cases c with
  | coldReset => exact keeps_coldReset (fun _ => Or.inr (Or.inr (Or.inr rfl))) (fun _ => Or.inr rfl) s
  | frameArrival p f right => exact keeps_frameArrival p f right fun _ h => Or.inl h
  | transmissionCompletion p => exact ⟨_, rfl, .of_store (.complete ..) fun q => FrameStore.up_complete ..⟩
  | linkLoss p receiving =>
    refine ⟨_, rfl, ?_⟩
    split
    · exact keeps_loseLink ..
    · exact .refl ..
  | linkGain p =>
    refine ⟨_, rfl, ?_⟩
    split
    · exact .refl ..
    · exact keeps_gainLink ..
  | deadlineExpiry l dir => exact keeps_deadlineExpiry l dir s
  | releaseExpiry l => exact keeps_releaseExpiry l s
  | holdOrderTimeExpiry l => exact keeps_holdOrderTimeExpiry l s
  | overlapExpiry l => exact keeps_overlapExpiry l s
  | ageDeadlineExpiry i =>
    refine ⟨_, rfl, ?_⟩
    split
    · refine .of_coverage (Table.wf_set _ _ _) fun h j => ?_
      rw [Table.get_set]
      split
      · exact ⟨(h i).1, Nat.zero_le _, fun _ => rfl, by simp [CoverEntry.forget]⟩
      · exact h j
    · exact .refl ..
  | staleDeadlineExpiry i => exact keeps_staleExpiry i s
  | lostDeadlineExpiry i => exact keeps_lostExpiry i s
  | summaryTimerExpiry => exact keeps_summaryTimer s
  | frameStep =>
    refine ⟨_, rfl, ?_⟩
    split
    · exact keeps_stepPass s
    · exact .refl ..
  | pacingDeadlineExpiry =>
    refine ⟨_, rfl, ?_⟩
    split
    · exact .after (keeps_emitNotices _) (.of_notices id)
    · exact .refl ..
  | identify => exact keeps_reading _ _ rfl
  | readEntries table first count => exact keeps_reading _ _ (readTable_keeps ..)
  | writeSettings index value => exact hrun _ _ (keeps_writeSetting ..)
  | bearerTypeWrite value => exact hrun _ _ (keeps_writeSetting ..)
  | queueLimitWrite p cls value => exact hrun _ _ (keeps_writeSetting ..)
  | noticeFloorWrite value => exact hrun _ _ (keeps_writeSetting ..)
  | summaryIntervalWrite value => exact hrun _ _ (keeps_writeSetting ..)
  | noticeDestinationWrite value => exact hrun _ _ (keeps_writeSetting ..)
  | writeManagers index a =>
    exact hrun _ _ (keeps_writeEntry fun _ _ _ _ => .of_managers (Table.wf_set _ _ _))
  | writeCells index f => exact hrun _ _ (keeps_writeEntry fun _ _ _ _ => keeps_storeCell ..)
  | writeGeometry bay g => exact hrun _ _ (keeps_writeEntry fun _ _ h _ => keeps_storeGeometry _ h s)
  | writeBearers index f => exact hrun _ _ (keeps_writeBearer ..)
  | writeCranes index f => exact hrun _ _ (keeps_writeCrane ..)
  | writePaths index primary alternate => exact hrun _ _ (keeps_writeEntry fun _ _ _ _ => keeps_storePath ..)
  | writeProfiles index f => exact hrun _ _ (keeps_writeEntry fun _ _ _ _ => .of_profiles (Table.wf_set _ _ _))
  | writeReefers index f =>
    refine hrun _ _ (keeps_writeReefers (fun i hi => Or.inl ⟨f, by rw [hi]⟩) fun h => ?_)
    have h : (fits16 index && f.wellFormed) = true := h
    simpa [ReeferFields.wellFormed] using (Bool.and_eq_true_iff.1 h).2
  | writeCoverage index => exact keeps_reading _ _ rfl
  | clearSettings first count => exact hrun _ _ (keeps_clearSettings ..)
  | clearManagers first count =>
    exact hrun _ _ (keeps_clearEntries fun _ _ => .of_managers (Table.wf_fill _ _ _ _))
  | clearCells first count => exact hrun _ _ (keeps_clearEntries fun _ _ => keeps_clearCellRange ..)
  | clearGeometry first count => exact hrun _ _ (keeps_clearEntries fun _ _ => keeps_clearGeometryRange ..)
  | clearBearers first count => exact hrun _ _ (keeps_clearBearers ..)
  | clearCranes first count => exact hrun _ _ (keeps_clearCranes ..)
  | clearPaths first count => exact hrun _ _ (keeps_clearEntries fun _ _ => keeps_clearPathRange ..)
  | clearProfiles first count =>
    exact hrun _ _ (keeps_clearEntries fun _ _ => .of_profiles (Table.wf_fill _ _ _ _))
  | clearReefers first count =>
    exact hrun _ _ (keeps_clearEntries fun _ _ => keeps_clearReeferRange fun i hi =>
      Or.inr (Or.inl ⟨first, count, hi, rfl⟩))
  | clearCoverage first count => exact hrun _ _ (keeps_clearEntries fun _ _ => keeps_clearCoverageRange ..)
  | commitPaths mask now => exact hrun _ _ (keeps_orderLinks (keeps_commitLink now) s)
  | craneHold mask => exact hrun _ _ (keeps_orderLinks keeps_holdLink s)
  | statisticsRead group first count => exact keeps_reading _ _ (by split <;> rfl)
  | statisticsClear => exact hrun _ _ (keeps_clearStatistics s)
  | captureArm f => exact hrun _ _ (keeps_armCapture f s)
  | captureStop => exact hrun _ _ (.of_capture id)
  | captureRead offset count => exact keeps_reading _ _ (by split <;> rfl)
  | captureClearHits => exact hrun _ _ (.of_capture id)
  | restart => exact keeps_restart (fun _ => Or.inr (Or.inr (Or.inl rfl))) s
  | badCommand w => exact keeps_reading _ _ rfl

/-! ### Every step -/

/-- A licence for what is part of no command: nothing is cleared or released. -/
def Licence.none : Licence := ⟨True, fun _ => False, fun _ => False, fun _ => False⟩

theorem completions_wellFormed (s : State) : ∀ c ∈ s.completions, c.wellFormed = true := by
  intro c hc
  obtain ⟨p, -, hp⟩ := List.mem_filterMap.1 hc
  split at hp
  · injection hp with hp; rw [← hp]; rfl
  · cases hp

theorem firstDue_mem {now : QuayTime} {l : List (Option QuayTime × Instr)} {i : Instr} (h : firstDue now l = some i) :
    ∃ d, (some d, i) ∈ l ∧ reached now d = true := by
  induction l with
  | nil => cases h
  | cons e l ih =>
    obtain ⟨o, j⟩ := e
    unfold firstDue at h
    split at h
    next hd =>
      injection h with h
      subst h
      cases o with
      | none => cases hd
      | some d => exact ⟨d, List.mem_cons_self, hd⟩
    next =>
      obtain ⟨d, hd, hr⟩ := ih h
      exact ⟨d, List.mem_cons_of_mem _ hd, hr⟩

theorem dueExpiry_wellFormed {i : Instr} (h : s.dueExpiry = some i) : i.wellFormed = true := by
  unfold State.dueExpiry at h
  simp only [Option.or_eq_some_iff] at h
  rcases h with h | ⟨-, h | ⟨-, h | ⟨-, h | ⟨-, h⟩⟩⟩⟩
  · obtain ⟨d, hd, -⟩ := firstDue_mem h
    obtain ⟨l, -, hl⟩ := List.mem_flatMap.1 hd
    simp only [CraneLink.deadlines, List.mem_cons, Prod.mk.injEq, List.not_mem_nil, or_false] at hl
    rcases hl with ⟨-, rfl⟩ | ⟨-, rfl⟩ | ⟨-, rfl⟩ | ⟨-, rfl⟩ | ⟨-, rfl⟩ <;> rfl
  · obtain ⟨j, -, rfl⟩ := Option.map_eq_some_iff.1 h; rfl
  · obtain ⟨j, -, rfl⟩ := Option.map_eq_some_iff.1 h; rfl
  · obtain ⟨j, -, rfl⟩ := Option.map_eq_some_iff.1 h; rfl
  · obtain ⟨d, hd, -⟩ := firstDue_mem h
    simp only [List.mem_cons, Prod.mk.injEq, List.not_mem_nil, or_false] at hd
    rcases hd with ⟨-, rfl⟩ | ⟨-, rfl⟩ <;> rfl

theorem StoreKeeps.after (may : Port → Class → Origin → Prop) (settings : Table Nat) (st : FrameStore) (n : Nat) :
    StoreKeeps may settings st { st with ports := st.ports.map fun p => p.after n } :=
  .of_maps (fun p => by
      rw [st.port_mapPorts]
      unfold PortState.after PortState.txBlocks
      cases (st.port p).tx <;> rfl) (fun _ _ => rfl) rfl fun ⟨_, hq⟩ => ⟨Table.wf_map .., hq⟩

theorem keeps_pass (n : Nat) (s : State) : Keeps x s (s.pass n) := by
  have hstore : Keeps x s { s with store := { s.store with ports := s.store.ports.map fun p => p.after n } } :=
    .of_store (.after ..) fun p => by rw [s.store.port_mapPorts]; rfl
  unfold State.pass
  simp only
  split
  · exact hstore.trans (.of_clock s.quayTime (s.lineTime + n))
  · exact hstore.trans (.of_clock (s.quayTime + 1) 0)

/-- What the part does of itself keeps every law, and what it queues is well-formed. -/
theorem keeps_idle (s : State) :
    ∃ u p, s.idle = { u with pending := p } ∧ Keeps .none s u ∧
      (s.sizesLegal → ∀ c ∈ p, c.wellFormed = true) := by
  have hqueue : ∀ i : Instr, (s.sizesLegal → i.wellFormed = true) → ∃ u p,
      ({ s with pending := [i] } : State) = { u with pending := p } ∧ Keeps .none s u ∧
        (s.sizesLegal → ∀ c ∈ p, c.wellFormed = true) := fun i hi =>
    ⟨s, [i], rfl, .refl .., fun hs c hc => List.mem_singleton.1 hc ▸ hi hs⟩
  have hsame : ∀ u, Keeps .none s u → ∃ v p, u = { v with pending := p } ∧ Keeps .none s v ∧
      (s.sizesLegal → ∀ c ∈ p, c.wellFormed = true) := fun u hu =>
    ⟨u, s.pending, by rw [← hu.pending], hu, fun hs => hs.2.2.1⟩
  unfold State.idle
  split
  · exact hqueue _ fun _ => rfl
  · split
    · next e he =>
      unfold nextCommand
      split
      · next c hc =>
        exact hqueue _ fun hs => Laws.decodeCommand_wellFormed c (hs.2.2.2.2 e he c (List.mem_of_getElem? hc))
      · exact hsame _ (keeps_endRequest (by simp) (by simp) e s)
    · next q rest hnone hq =>
      refine hsame _ { Keeps.of_endpoint (v := { s.endpoint with requests := rest, executing := none }) id
        (fun h => ?_) (fun r hr => ?_) nofun with sizes := fun _ hs => ?_ }
      · rw [hq] at h; simp only [List.length_cons] at h ⊢; omega
      · exact .inl (by rw [hq]; exact List.mem_cons_of_mem _ hr)
      · obtain ⟨h1, h2, h3, h4, -⟩ := hs
        rw [hq] at h4
        exact ⟨h1, h2, h3, fun r hr => h4 r (List.mem_cons_of_mem _ hr), fun e he => by
          injection he with he; rw [← he]; exact h4 q List.mem_cons_self⟩
    · split
      · next i hi => exact hqueue i fun _ => dueExpiry_wellFormed hi
      · exact ⟨_, _, rfl, keeps_pass _ s, fun _ => completions_wellFormed _⟩

/-- Whatever a step does, it keeps every law but the length of the queue of commands, under a licence that covers its
command and rewrites no link. -/
theorem keeps_step {t : State} (h : step s = .next t) :
    ∃ x u v p, t = { v with pending := p } ∧ s = { u with pending := s.pending } ∧ Keeps x u v ∧
      (∀ l, ¬ x.rewrites l) ∧ (s.sizesLegal → x.fits ∧ u.sizesLegal ∧ ∀ c ∈ p, c.wellFormed = true) := by
  unfold step at h
  split at h
  next hp =>
    injection h with h
    obtain ⟨u, p, hu, hk, hw⟩ := keeps_idle s
    exact ⟨.none, s, u, p, h ▸ hu, rfl, hk, fun _ h => h, fun hs => ⟨trivial, hs, hw hs⟩⟩
  next c rest hp =>
    obtain ⟨u, hu, hk⟩ := keeps_exec c { s with pending := rest }
    rw [hu] at h
    injection h with h
    refine ⟨Instr.licence c { s with pending := rest }, { s with pending := rest }, u, u.pending, h ▸ rfl, rfl, hk,
      fun _ h => h, fun ⟨h1, h2, h3, h4⟩ => ?_⟩
    rw [hp] at h3
    have hrest : ∀ d ∈ rest, d.wellFormed = true := fun d hd => h3 d (List.mem_cons_of_mem _ hd)
    exact ⟨h3 c List.mem_cons_self, ⟨h1, h2, hrest, h4⟩, by rw [hk.pending]; exact hrest⟩

end Sys2Proof.Machine

section
open Sys2Proof Sys2Proof.Machine

/-- Settles O10: no operation of the Frame Store takes a block or returns one but with the frame that holds it. -/
theorem poolStaysWhole : Obligations.PoolStaysWhole := by
  intro s t h hstep
  obtain ⟨x, u, v, p, rfl, hs, hk, -⟩ := keeps_step hstep
  rw [hs] at h
  exact hk.pool h

/-- Settles O24: the record of a link is legal before and after each operation on it; entry to HOLD and entry to IDLE
are each one operation. -/
theorem linksStayLegal : Obligations.LinksStayLegal := by
  intro s t h hstep
  obtain ⟨x, u, v, p, rfl, hs, hk, hx, -⟩ := keeps_step hstep
  rw [hs] at h
  exact fun l => hk.legal l (hx l) (h l)

/-- Settles O26: a frame that is offered to a quay port is of no held link's bearer, and entry to HOLD withdraws those
of its link's. -/
theorem heldLinksStayQuiet : Obligations.HeldLinksStayQuiet := by
  intro s t h hstep
  obtain ⟨x, u, v, p, rfl, hs, hk, -⟩ := keeps_step hstep
  rw [hs] at h
  exact hk.quiet h

/-- Settles O41: a flag is set where a slot joins the list and cleared where it leaves it. -/
theorem changeListStaysExact : Obligations.ChangeListStaysExact := by
  intro s t h hstep
  obtain ⟨x, u, v, p, rfl, hs, hk, -⟩ := keeps_step hstep
  rw [hs] at h
  exact hk.list h

/-- Settles O45: only the commands the statement excepts are licensed to clear the slot. -/
theorem excursionNeverDecreases : Obligations.ExcursionNeverDecreases := by
  intro c s t i hbound hexec hwrite hclear hrestart hcold
  obtain ⟨u, hu, hk⟩ := keeps_exec c s
  rw [hu] at hexec
  injection hexec with hexec
  subst hexec
  refine (hk.excursion i ?_ hbound).1
  rintro (⟨f, hf⟩ | ⟨first, count, hr, hc⟩ | hc | hc)
  · exact hwrite f hf
  · exact hclear first count hr hc
  · exact hrestart hc
  · exact hcold hc

/-- Settles O2: every command answers, and no operation touches the queue of commands. -/
theorem commandLeavesQueue : Obligations.CommandLeavesQueue := by
  intro c s
  obtain ⟨t, ht, hk⟩ := keeps_exec c s
  exact ⟨t, ht, hk.pending⟩

/-- Settles O11: a setting is judged against its range and its queue before it is stored, an offer against the limit;
the flags of a port's cells move with its link state. -/
theorem limitsAndFlagsStay : Obligations.LimitsAndFlagsStay := by
  refine ⟨fun s t h hstep => ?_, fun s t h hstep => ?_⟩ <;>
    obtain ⟨x, u, v, p, rfl, hs, hk, -⟩ := keeps_step hstep <;> rw [hs] at h
  · exact hk.limits h
  · exact hk.flags h

/-- Settles O12: every operation on a table keeps the canonical form. -/
theorem tablesStayCanonical : Obligations.TablesStayCanonical := by
  intro s t h hstep
  obtain ⟨x, u, v, p, rfl, hs, hk, -⟩ := keeps_step hstep
  rw [hs] at h
  exact hk.canonical h

/-- Settles O22: a bucket is refilled at most to its burst, and an estimate is limited to 4080. -/
theorem recordsStayLegal : Obligations.RecordsStayLegal := by
  refine ⟨fun s t h hstep => ?_, fun s t h hstep => ?_⟩ <;>
    obtain ⟨x, u, v, p, rfl, hs, hk, -⟩ := keeps_step hstep <;> rw [hs] at h
  · exact hk.bearers h
  · exact hk.cover h

/-- Settles O49: what joins a list is judged against its room first. -/
theorem listsStayBounded : Obligations.ListsStayBounded := by
  refine ⟨fun s t h hstep => ?_, fun s t h hstep => ?_, fun s t h hstep => ?_⟩ <;>
    obtain ⟨x, u, v, p, rfl, hs, hk, -, hsizes⟩ := keeps_step hstep
  · rw [hs] at h; exact hk.notices h
  · rw [hs] at h; exact hk.buffers h
  · obtain ⟨hf, hu, hp⟩ := hsizes h
    obtain ⟨h1, h2, -, h4⟩ := hk.sizes hf hu
    exact ⟨h1, h2, hp, h4⟩

/-- Settles O25: only a link in RELEASING is released, and a link in HOLD is not. -/
theorem holdLeftThroughRelease : Obligations.HoldLeftThroughRelease := by
  intro c s t l hhold hexec hcold
  obtain ⟨u, hu, hk⟩ := keeps_exec c s
  rw [hu] at hexec
  injection hexec with hexec
  subst hexec
  refine hk.held l ?_ (.inl hhold)
  rintro (h | h)
  · rw [hhold] at h; cases h
  · exact hcold h

/-- Settles O4: the reset state is the cold state of the modelled part. -/
theorem resetMeetsInvariants : Obligations.ResetMeetsInvariants :=
  ⟨cold_poolWhole _, cold_limitsKept _, cold_flagsTrue _, cold_bearersLegal _, cold_link_legal _, cold_heldQuiet _,
    cold_coverLegal _, cold_listExact _, cold_noticesLegal _, cold_buffersLegal _, cold_sizesLegal _, cold_canonical _⟩

/-- Settles O1: a step with a command waiting takes it from the front of the queue. -/
theorem stepRunsFrontCommand : Obligations.StepRunsFrontCommand := by
  intro c rest s
  rfl

end

/-! PROOFS. The Frame Store's scheduler, offers and events (O6 to O9). -/

namespace Sys2Proof.Machine

/-! ### The scheduler's choice (R40) -/

section chooseClass
variable {turn : Class} {credit : Nat} {waits : Class → Bool} {weight : Class → Nat}

theorem chooseClass_of_zero (h : waits 0 = true) : chooseClass turn credit waits weight = some (0, turn, credit) := by
  simp [chooseClass, h]

theorem chooseClass_of_turn (h0 : waits 0 = false) (hc : 0 < credit) (ht : waits turn = true) :
    chooseClass turn credit waits weight = some (turn, turn, credit - 1) := by
  simp [chooseClass, h0, hc, ht]

/-- Without class 0 and the turn class's credit, the first waiting class of the search order is chosen. -/
theorem chooseClass_of_search (h0 : waits 0 = false) (ht : (decide (0 < credit) && waits turn) = false)
    (hturn : turn ≠ 0) :
    chooseClass turn credit waits weight =
      ((searchOrder turn).find? waits).map fun c => (c, c, weight c - 1) := by
  have hcases : ∀ t : Class, t ≠ 0 → t = 1 ∨ t = 2 ∨ t = 3 := by decide
  have hnext : nextClass 1 = 2 ∧ nextClass 2 = 3 ∧ nextClass 3 = 1 := ⟨rfl, rfl, rfl⟩
  have horder : searchOrder 1 = [2, 3, 1] ∧ searchOrder 2 = [3, 1, 2] ∧ searchOrder 3 = [1, 2, 3] := ⟨rfl, rfl, rfl⟩
  unfold chooseClass
  rw [if_neg (by simp [h0]), if_neg (by simp [ht])]
  rcases hcases turn hturn with rfl | rfl | rfl <;> simp only [hnext, horder, List.find?] <;>
    cases waits 1 <;> cases waits 2 <;> cases waits 3 <;> rfl

end chooseClass

section select
variable {st : FrameStore} {settings : Table Nat} {p : Port}

theorem FrameStore.select_of_unready (h : (st.port p).up = false ∨ (st.port p).tx ≠ none) :
    st.select settings p = st := by
  rcases st.select_cases settings p with h' | ⟨-, -, -, -, -, hup, htx, -⟩
  · exact h'
  · rcases h with h | h
    · rw [hup] at h; cases h
    · exact absurd htx h

/-- A ready port begins the frame at the head of the chosen class. -/
theorem FrameStore.select_of_choice {c turn : Class} {credit : Nat} {e : QueueEntry} {rest : List QueueEntry}
    (hup : (st.port p).up = true) (htx : (st.port p).tx = none) (he : (st.queue p c).entries = e :: rest)
    (h : chooseClass (st.port p).turn (st.port p).credit (fun c => !(st.queue p c).entries.isEmpty)
      (fun c => settings.get (weightIndex p c)) = some (c, turn, credit)) :
    st.select settings p = st.begun p c e rest turn credit := by
  have hready : ((st.port p).up && (st.port p).tx.isNone) = true := by simp [hup, htx]
  unfold FrameStore.select
  simp only [hready, h, he, if_true]
  rfl

theorem FrameStore.select_of_empty (h : ∀ c, (st.queue p c).entries = []) : st.select settings p = st := by
  rcases st.select_cases settings p with h' | ⟨c, e, rest, -, -, -, -, he, -⟩
  · exact h'
  · rw [h c] at he; cases he

end select

/-! ### The judgement of an offer (R35) -/

section judge
variable {st : FrameStore} {settings : Table Nat} {p : Port} {c : Class} {b : Nat}

theorem FrameStore.judge_of_down (h : (st.port p).up = false) : st.judge settings p c b = .refused .linkDown := by
  simp [FrameStore.judge, h]

theorem FrameStore.judge_of_full (h : (st.port p).up = true)
    (hfull : settings.get (limitIndex p c) ≤ (st.queue p c).entries.length) :
    st.judge settings p c b = .refused .queueFull := by
  simp [FrameStore.judge, h, hfull]

theorem FrameStore.judge_of_room (h : (st.port p).up = true)
    (hroom : (st.queue p c).entries.length < settings.get (limitIndex p c)) :
    st.judge settings p c b =
      if st.free < b + (if c = 0 then 0 else settings.get 1) then .refused .pool else .admitted := by
  simp [FrameStore.judge, h, Nat.not_le.2 hroom]

theorem FrameStore.offer_of_refused {e : QueueEntry} {cause : Cause}
    (h : st.judge settings p c e.blocks = .refused cause) :
    st.offer settings p c e = (.refused cause, st.setQueue p c ((st.queue p c).counted (.refused cause))) := by
  simp only [FrameStore.offer, h]

theorem FrameStore.offer_of_admitted {e : QueueEntry} (h : st.judge settings p c e.blocks = .admitted) :
    st.offer settings p c e = (.admitted, ((st.take e.blocks).setQueue p c
      { st.queue p c with entries := (st.queue p c).entries ++ [e], admitted := (st.queue p c).admitted + 1 }).select
        settings p) := by
  simp only [FrameStore.offer, h]
  rfl

end judge

/-! ### What leaves the queues and transmitters of a port (R25) -/

@[simp] theorem FrameStore.least_dropEntries (st : FrameStore) (p : Port) (c : Class) (drop : QueueEntry → Bool) :
    (st.dropEntries p c drop).least = st.least := rfl

@[simp] theorem FrameStore.noCell_dropEntries (st : FrameStore) (p : Port) (c : Class) (drop : QueueEntry → Bool) :
    (st.dropEntries p c drop).noCell = st.noCell := rfl

@[simp] theorem FrameStore.least_dropAt (st : FrameStore) (p : Port) (drop : QueueEntry → Bool) :
    (st.dropAt p drop).least = st.least := by
  simp only [FrameStore.dropAt, allClasses, List.foldl_cons, List.foldl_nil, FrameStore.least_dropEntries]

@[simp] theorem FrameStore.noCell_dropAt (st : FrameStore) (p : Port) (drop : QueueEntry → Bool) :
    (st.dropAt p drop).noCell = st.noCell := by
  simp only [FrameStore.dropAt, allClasses, List.foldl_cons, List.foldl_nil, FrameStore.noCell_dropEntries]

/-- The blocks of the entries that leave a port's queues return. -/
theorem FrameStore.free_dropAt (st : FrameStore) (p : Port) (drop : QueueEntry → Bool) :
    (st.dropAt p drop).free =
      st.free + (allClasses.map fun c => blocksHeld ((st.queue p c).entries.filter drop)).sum := by
  simp only [FrameStore.dropAt, allClasses, List.foldl_cons, List.foldl_nil, FrameStore.dropEntries,
    FrameStore.giveBack_free, FrameStore.setQueue_free, FrameStore.queue_giveBack, FrameStore.queue_setQueue]
  simp [Nat.add_assoc]

theorem FrameStore.port_cutOff (st : FrameStore) (p q : Port) :
    (st.cutOff p).port q = if q = p then { st.port p with tx := none } else st.port q := by
  unfold FrameStore.cutOff
  split
  next h =>
    split
    next e => rw [e, ← h]
    next => rfl
  next => rw [FrameStore.port_giveBack, FrameStore.port_setQueue, FrameStore.port_setPort]

/-- The number of frames a port's transmitter holds that were selected from a class. -/
def PortState.sending (v : PortState) (c : Class) : Nat := v.tx.elim 0 fun t => if t.cls = c then 1 else 0

theorem PortState.sending_eq (v : PortState) (c : Class) :
    v.sending c = if ∃ tx, v.tx = some tx ∧ tx.cls = c then 1 else 0 := by
  unfold PortState.sending
  cases v.tx <;> simp

theorem FrameStore.queue_cutOff (st : FrameStore) (p q : Port) (c : Class) :
    (st.cutOff p).queue q c = if q = p then { st.queue p c with
      flushed := (st.queue p c).flushed + BitVec.ofNat 32 ((st.port p).sending c) } else st.queue q c := by
  unfold FrameStore.cutOff PortState.sending
  split
  next h =>
    rw [h]
    split
    next e => rw [e]; simp
    next => rfl
  next t h =>
    rw [h, FrameStore.queue_giveBack, FrameStore.queue_setQueue, FrameStore.queue_setPort]
    by_cases hq : q = p
    · subst hq
      by_cases hc : c = t.cls
      · simp [hc]
      · simp [hc, Ne.symm hc]
    · simp [hq]

theorem FrameStore.free_cutOff (st : FrameStore) (p : Port) :
    (st.cutOff p).free = st.free + (st.port p).txBlocks := by
  unfold FrameStore.cutOff PortState.txBlocks
  cases (st.port p).tx <;> rfl

theorem FrameStore.least_cutOff (st : FrameStore) (p : Port) : (st.cutOff p).least = st.least := by
  unfold FrameStore.cutOff
  split <;> rfl

theorem FrameStore.noCell_cutOff (st : FrameStore) (p : Port) : (st.cutOff p).noCell = st.noCell := by
  unfold FrameStore.cutOff
  split <;> rfl

/-! ### Link loss (R25) -/

section linkLost
variable (st : FrameStore) (p q : Port) (receiving : Bool)

theorem FrameStore.port_linkLost_same : (st.linkLost p receiving).port p = { st.port p with
    up := false, tx := none, turn := 3, credit := 0, linkLosses := bump16 (st.port p).linkLosses
    receiveErrors := if receiving then bump16 (st.port p).receiveErrors else (st.port p).receiveErrors } := by
  simp [FrameStore.linkLost, FrameStore.resetTurn, FrameStore.emptyQueues, FrameStore.port_setPort,
    FrameStore.port_cutOff]

theorem FrameStore.port_linkLost_other {p q : Port} (h : q ≠ p) : (st.linkLost p receiving).port q = st.port q := by
  simp [FrameStore.linkLost, FrameStore.resetTurn, FrameStore.emptyQueues, FrameStore.port_setPort,
    FrameStore.port_cutOff, h]

theorem FrameStore.queue_linkLost (c : Class) : (st.linkLost p receiving).queue q c = if q = p then { st.queue p c with
    entries := []
    flushed := (st.queue p c).flushed + BitVec.ofNat 32 ((st.queue p c).entries.length + (st.port p).sending c) }
      else st.queue q c := by
  simp only [FrameStore.linkLost, FrameStore.resetTurn, FrameStore.emptyQueues, FrameStore.queue_setPort,
    FrameStore.queue_dropAt, FrameStore.queue_cutOff, FrameStore.port_setPort, if_true]
  split
  next h =>
    simp only [Queue.without, Bool.not_true, List.filter_false, List.filter_true, PortState.sending,
      BitVec.ofNat_add, BitVec.add_assoc]
    rw [BitVec.add_comm (BitVec.ofNat 32 (Option.elim _ _ _))]
  next => rfl

theorem FrameStore.free_linkLost : (st.linkLost p receiving).free = st.free + st.portBlocks p := by
  simp [FrameStore.linkLost, FrameStore.resetTurn, FrameStore.emptyQueues, FrameStore.free_dropAt,
    FrameStore.free_cutOff, FrameStore.queue_cutOff, FrameStore.portBlocks_eq, FrameStore.port_setPort,
    PortState.txBlocks]
  omega

theorem FrameStore.least_linkLost : (st.linkLost p receiving).least = st.least := by
  simp [FrameStore.linkLost, FrameStore.resetTurn, FrameStore.emptyQueues, FrameStore.least_cutOff]

theorem FrameStore.noCell_linkLost : (st.linkLost p receiving).noCell = st.noCell := by
  simp [FrameStore.linkLost, FrameStore.resetTurn, FrameStore.emptyQueues, FrameStore.noCell_cutOff]

end linkLost

theorem get_flagCells (cells : Table CellEntry) (p : Port) (up : Bool) (k : Nat) :
    (flagCells cells p up).get k = if quayPort (cells.get k).quayPort = p
      then { cells.get k with portUp := up && (cells.get k).present } else cells.get k := by
  rw [flagCells, Table.get_map]

end Sys2Proof.Machine

section
open Sys2Proof Sys2Proof.Machine

/-- Settles O7: each clause is one step of the choice, and the chosen class's head begins its transmission. -/
theorem schedulerSelects : Obligations.SchedulerSelects := by
  intro st settings p
  refine ⟨FrameStore.select_of_unready, fun hup htx hturn => ⟨fun e rest he => ?_, fun h0 hcredit e rest he => ?_,
    fun h0 hturn' before c after e rest horder hbefore he => ?_, FrameStore.select_of_empty⟩⟩
  · exact FrameStore.select_of_choice hup htx he (chooseClass_of_zero (by simp [he]))
  · exact FrameStore.select_of_choice hup htx he (chooseClass_of_turn (by simp [h0]) hcredit (by simp [he]))
  · refine FrameStore.select_of_choice hup htx he ?_
    rw [chooseClass_of_search (by simp [h0]) (by rcases hturn' with h | h <;> simp [h]) hturn, horder,
      List.find?_append, List.find?_eq_none.2 (by simpa using hbefore)]
    simp [he]

/-- Settles O6: the offer is judged by three tests in order, and each outcome is one equation of the store. -/
theorem offerIsJudged : Obligations.OfferIsJudged := by
  intro s p c cell o f sent b q lacking
  have hoffer : s.offer p c cell o f =
      ((s.store.offer s.settings p c { frame := sent, blocks := b, origin := o }).1,
        { s with store := (s.store.offer s.settings p c { frame := sent, blocks := b, origin := o }).2 }) := rfl
  have hlacking : lacking ↔ s.store.free < b + (if c = 0 then 0 else s.settings.get 1) := by
    show (if c = 0 then _ else _) ↔ _
    split <;> rfl
  refine ⟨fun hup => ?_, fun hup hfull => ?_, fun hup hroom hlack => ?_, fun hup hroom hlack => ?_⟩ <;> rw [hoffer]
  · rw [FrameStore.offer_of_refused (FrameStore.judge_of_down hup)]; rfl
  · rw [FrameStore.offer_of_refused (FrameStore.judge_of_full hup hfull)]; rfl
  · rw [FrameStore.offer_of_refused ((FrameStore.judge_of_room hup hroom).trans (if_pos (hlacking.1 hlack)))]; rfl
  · rw [FrameStore.offer_of_admitted ((FrameStore.judge_of_room hup hroom).trans (if_neg (hlacking.not.1 hlack)))]; rfl

/-- Settles O8: a completion returns the blocks and counts the frame, and then the scheduler selects. -/
theorem transmissionCompletes : Obligations.TransmissionCompletes := by
  intro s p
  have hexec : exec (.transmissionCompletion p) s = .next { s with store := s.store.complete s.settings p } := rfl
  refine ⟨fun h => ?_, fun tx h => ?_⟩ <;> rw [hexec]
  · simp only [FrameStore.complete, h]
  · refine ⟨(s.store.giveBack tx.entry.blocks).setPort p _, by simp only [FrameStore.complete, h]; rfl, rfl, rfl, rfl,
      rfl, fun q hq => ?_, ?_⟩
    · rw [FrameStore.port_setPort, if_neg hq, FrameStore.port_giveBack]
    · rw [FrameStore.port_setPort, if_pos rfl]; rfl

/-- Settles O9: a loss or a gain is one change of the store and of the cells' flags, then its notice. -/
theorem linkLossAndGain : Obligations.LinkLossAndGain := by
  intro s p
  have hloss : ∀ r, exec (.linkLoss p r) s = .next (if (s.store.port p).up then loseLink p r s else s) := fun r => rfl
  have hgain : exec (.linkGain p) s = .next (if (s.store.port p).up then s else gainLink p s) := rfl
  refine ⟨fun r h => by rw [hloss, h]; rfl, fun h => by rw [hgain, h]; rfl, fun r h => ?_, fun h => ?_⟩
  · refine ⟨{ s with
      store := s.store.linkLost p r
      classifier := { s.classifier with cells := flagCells s.classifier.cells p false } }, ?_, rfl,
      s.store.port_linkLost_same p r, fun q hq => ⟨s.store.port_linkLost_other r hq, fun c => ?_⟩, fun c => ?_,
      s.store.free_linkLost p r, s.store.least_linkLost p r, s.store.noCell_linkLost p r,
      fun c => get_flagCells s.classifier.cells p false c.val⟩
    · rw [hloss, h, if_pos rfl, loseLink_eq]
      congr 6
      unfold FrameStore.residents
      cases (s.store.port p).tx <;> rfl
    · exact (s.store.queue_linkLost p q r c).trans (if_neg hq)
    · rw [← PortState.sending_eq]
      exact (s.store.queue_linkLost p p r c).trans (if_pos rfl)
  · refine ⟨{ s with
      store := s.store.setPort p { s.store.port p with up := true }
      classifier := { s.classifier with cells := flagCells s.classifier.cells p true } }, ?_, rfl, ?_, fun q hq => ?_,
      fun c => ?_⟩
    · rw [hgain, h]; rfl
    · exact (s.store.port_setPort ..).trans (if_pos rfl)
    · exact (s.store.port_setPort ..).trans (if_neg hq)
    · refine (get_flagCells s.classifier.cells p true c.val).trans ?_
      rw [Bool.true_and]; rfl

end

/-! PROOFS. The Ingress Classifier: sorting, requests, descriptors, buckets and the handing on of a frame that passed
(O13, O14, O17 to O20). -/

namespace Sys2Proof.Machine

/-! ### Sorting (R1) -/

theorem classify_of_otherType {f : Frame} {s : State} (p : Port) (h : f.etherType ≠ s.bearerType) :
    classify p f s = if f.etherType = s.identity.managementEtherType then takeManagementFrame p f (countReceived p s)
      else dropForeign p f (countReceived p s) :=
  if_neg h

theorem countForeign_countReceived (p : Port) (s : State) :
    countForeign p (countReceived p s) = s.setArrivals p { s.arrivals p with
      framesReceived := (s.arrivals p).framesReceived + 1, foreign := bump16 (s.arrivals p).foreign } := by
  simp [countForeign, countReceived]

/-- A frame on a port with link and with a right check sequence is classified. -/
theorem exec_frameArrival_right {s : State} {p : Port} (f : Frame) (h : (s.store.port p).up = true) :
    exec (.frameArrival p f true) s = .next (classify p f s) := by
  rw [exec_frameArrival, execFrameArrival, if_pos h, if_pos rfl]

/-! ### Requests (R181) -/

theorem State.sourceAllowed_iff (s : State) (src : Address) :
    s.sourceAllowed src = true ↔ (∀ i < 4, s.endpoint.managers.get i = 0) ∨
      ∃ i < 4, s.endpoint.managers.get i = src ∧ src ≠ 0 := by
  have hbelow : ∀ i : Nat, i < 4 ↔ i = 0 ∨ i = 1 ∨ i = 2 ∨ i = 3 := by omega
  have heach : ∀ a : Address, ¬a = 0#48 ∧ a = src ↔ a = src ∧ ¬src = 0#48 := fun a =>
    ⟨fun ⟨h, e⟩ => ⟨e, e ▸ h⟩, fun ⟨e, h⟩ => ⟨e ▸ h, e⟩⟩
  simp [State.sourceAllowed, hbelow, or_imp, forall_and, or_and_right, exists_or, heach]

theorem readCommands_length {n : Nat} {data : List Byte} {commands : List WireCommand}
    (h : readCommands data n = some commands) : commands.length = n := by
  induction n generalizing data commands with
  | zero =>
    injection h with h
    rw [← h, List.length_nil]
  | succ n ih =>
    unfold readCommands at h
    simp only at h
    split at h
    · cases h
    · obtain ⟨rest, hrest, rfl⟩ := Option.map_eq_some_iff.1 h
      rw [List.length_cons, ih hrest]

theorem readRequest_some {f : Frame} {q : Request} (h : readRequest f = some q) :
    q.source = f.src ∧ 1 ≤ q.commands.length ∧ q.commands.length ≤ 32 := by
  unfold readRequest at h
  simp only at h
  split at h
  · cases h
  · obtain ⟨commands, hc, rfl⟩ := Option.map_eq_some_iff.1 h
    have := readCommands_length hc
    exact ⟨rfl, by simp only; omega, by simp only; omega⟩

/-! ### The descriptor of a bearer frame (R5, R6) -/

theorem takeBearerFrame_of_sound {p : Port} {f : Frame} {dir : Direction} (h1 : ¬headerFaulty p f)
    (h2 : ¬lengthFaulty f) (hdir : (readHeader f.data).direction = some dir) (s : State) :
    takeBearerFrame p f s = resolveDescriptor p f (readHeader f.data) dir s := by
  rw [← failsHeaderTests_iff] at h1
  rw [← failsLengthTest_iff] at h2
  rw [takeBearerFrame, if_neg (by simp [h1, h2])]
  simp only [hdir]

section resolve
variable {p : Port} {f : Frame} {h : Header} {dir : Direction} {s : State}

theorem resolveDescriptor_null (h0 : h.bearer.toNat = 0) :
    resolveDescriptor p f h dir s = present (dropVerdict p f (some h) .none none .dropNull) s :=
  if_pos h0

theorem resolveDescriptor_absent (h0 : h.bearer.toNat ≠ 0) (ht : (s.bearer h.bearer.toNat).treatment = .absent) :
    resolveDescriptor p f h dir s =
      present (dropVerdict p f (some h) .absent none .dropAbsent) (touch h.bearer.toNat s) := by
  rw [← touch_treatment h.bearer.toNat] at ht
  simp only [resolveDescriptor, h0, ht, if_false]

theorem resolveDescriptor_redirect {target : BitVec 12} (h0 : h.bearer.toNat ≠ 0)
    (ht : (s.bearer h.bearer.toNat).treatment = .redirect target) :
    resolveDescriptor p f h dir s = redirect p f h dir target (touch h.bearer.toNat s) := by
  rw [← touch_treatment h.bearer.toNat] at ht
  simp only [resolveDescriptor, h0, ht, if_false]

/-- The treatments that govern the frames of their bearer: GENERAL, CRANE and REEFER. -/
def Treatment.governs (t : Treatment) : Prop := (∃ g, t = .general g) ∨ (∃ l, t = .crane l) ∨ ∃ i a, t = .reefer i a

theorem resolveDescriptor_governs (h0 : h.bearer.toNat ≠ 0) (ht : (s.bearer h.bearer.toNat).treatment.governs) :
    resolveDescriptor p f h dir s = govern p f h dir h.bearer.toNat (touch h.bearer.toNat s) := by
  rw [← touch_treatment h.bearer.toNat] at ht
  rcases ht with ⟨g, hg⟩ | ⟨l, hl⟩ | ⟨i, a, hi⟩ <;> simp only [resolveDescriptor, if_false, *]

theorem redirect_faulty {target : BitVec 12} (ht : (s.bearer target.toNat).treatment = .absent ∨
    (∃ l, (s.bearer target.toNat).treatment = .crane l) ∨ ∃ b, (s.bearer target.toNat).treatment = .redirect b) :
    redirect p f h dir target s = present (dropVerdict p f (some h) .redirect none .dropRedirectFault) s := by
  rcases ht with ht | ⟨l, ht⟩ | ⟨b, ht⟩ <;> simp only [redirect, ht]

theorem redirect_sound {target : BitVec 12} (ht : (∃ g, (s.bearer target.toNat).treatment = .general g) ∨
    ∃ i a, (s.bearer target.toNat).treatment = .reefer i a) :
    redirect p f h dir target s = govern p f h dir target.toNat (touch target.toNat s) := by
  rcases ht with ⟨g, ht⟩ | ⟨i, a, ht⟩ <;> simp only [redirect, ht]

end resolve

/-- Two descriptors are touched one after the other; that the second was read before or after makes no difference. -/
theorem touch_touch (i j : Nat) (s : State) :
    touch j (touch i s) = (touch i s).setBearer j { s.bearer j with touched := true } := by
  rw [touch, touch, State.bearer_setBearer]
  split
  next h => rw [h]
  next => rfl

/-! ### The policer (R9, R10) -/

theorem Descriptor.police_of_within {d : Descriptor} {now : QuayTime} {length : Nat} (h : length ≤ d.refilled now) :
    d.police now length = .conforms := by
  simp [Descriptor.police, h]

theorem Descriptor.police_of_beyond {d : Descriptor} {now : QuayTime} {length : Nat} (hrate : d.rate ≠ 0)
    (h : d.refilled now < length) :
    (((∃ l, d.treatment = .crane l) ∨ d.demote = false → d.police now length = .dropped) ∧
      ((∀ l, d.treatment ≠ .crane l) → d.demote = true → d.police now length = .demoted)) := by
  unfold Descriptor.police
  rw [if_neg hrate, if_neg (Nat.not_le.2 h)]
  cases d.treatment <;> simp +contextual

theorem Descriptor.afterFrame_eq (d : Descriptor) (now : QuayTime) (length : Nat) :
    d.afterFrame now length = { d.drawn now length with
      framesPassed := if d.police now length = .dropped then d.framesPassed else d.framesPassed + 1
      bytesPassed := if d.police now length = .dropped then d.bytesPassed
        else d.bytesPassed + BitVec.ofNat 32 length
      framesPoliced := if d.police now length = .conforms then d.framesPoliced else d.framesPoliced + 1 } := by
  have hcounts : (d.drawn now length).framesPassed = d.framesPassed ∧
      (d.drawn now length).bytesPassed = d.bytesPassed ∧ (d.drawn now length).framesPoliced = d.framesPoliced := by
    unfold Descriptor.drawn
    split <;> exact ⟨rfl, rfl, rfl⟩
  obtain ⟨hframes, hbytes, hpoliced⟩ := hcounts
  simp only [Descriptor.afterFrame, Descriptor.counted, hframes, hbytes, hpoliced]

/-! ### A frame that passed (R7 to R13) -/

theorem failsRecordCheck_iff (t : Treatment) (dir : Direction) (payload : List Byte) :
    failsRecordCheck t dir payload = true ↔ recordMissing t dir payload := by
  unfold failsRecordCheck recordMissing
  cases t <;> cases dir <;> simp

theorem effectiveClass_eq_classGiven (d : Descriptor) (requested : Class) :
    effectiveClass d requested = classGiven d requested := by
  unfold effectiveClass classGiven
  cases d.treatment <;> simp

theorem countExcess_of_not_crane {t : Treatment} (h : ∀ l, t ≠ .crane l) (s : State) : countExcess t s = s := by
  cases t with
  | crane l => exact absurd rfl (h l)
  | _ => rfl

section govern
variable {p : Port} {f : Frame} {h : Header} {dir : Direction} {i : Nat} {s : State}

theorem govern_of_missing
    (hm : recordMissing (s.bearer i).treatment dir (payloadOf f.data h)) :
    govern p f h dir i s = dropMalformed p f (some h) (kindOf (s.bearer i).treatment) s :=
  if_pos ((failsRecordCheck_iff ..).2 hm)

theorem govern_of_dropped (hm : ¬recordMissing (s.bearer i).treatment dir (payloadOf f.data h))
    (hd : (s.bearer i).police s.quayTime (10 + h.payloadLength) = .dropped) :
    govern p f h dir i s =
      present (dropVerdict p f (some h) (kindOf (s.bearer i).treatment)
        (some (classGiven (s.bearer i) h.requested)) .dropPoliced)
        (countExcess (s.bearer i).treatment
          (s.setBearer i ((s.bearer i).afterFrame s.quayTime (10 + h.payloadLength)))) := by
  rw [govern, if_neg (by simpa [failsRecordCheck_iff] using hm), effectiveClass_eq_classGiven]
  simp only [hd]

theorem govern_of_passed (hm : ¬recordMissing (s.bearer i).treatment dir (payloadOf f.data h))
    (hd : (s.bearer i).police s.quayTime (10 + h.payloadLength) ≠ .dropped) :
    govern p f h dir i s = handOn (passedFrame p f h dir i (s.bearer i)
        (if (s.bearer i).police s.quayTime (10 + h.payloadLength) = .demoted then 3
          else classGiven (s.bearer i) h.requested))
      (s.setBearer i ((s.bearer i).afterFrame s.quayTime (10 + h.payloadLength))) := by
  rw [govern, if_neg (by simpa [failsRecordCheck_iff] using hm), effectiveClass_eq_classGiven]
  cases hp : (s.bearer i).police s.quayTime (10 + h.payloadLength) with
  | dropped => exact absurd hp hd
  | conforms => rfl
  | demoted => rfl

end govern

/-- The trailer of a frame that passed: that of an uplink frame whose header announces one (R193). -/
theorem passedFrame_trailer (p : Port) (f : Frame) (h : Header) (dir : Direction) (i : Nat) (d : Descriptor)
    (cls : Class) :
    (passedFrame p f h dir i d cls).trailer = if dir = .up ∧ h.trailer = true then some {
      serving := byteAt f.data (10 + h.payloadLength)
      pairs := readPairs f.data (12 + h.payloadLength) (byteAt f.data (11 + h.payloadLength)).toNat } else none := by
  have hcount : 10 + h.payloadLength + 2 = 12 + h.payloadLength := by omega
  cases dir <;> cases ht : h.trailer <;> simp [passedFrame, readTrailer, ht, neighbourCount_eq, hcount]

/-! ### The cell of a downlink frame (R30) -/

theorem cellNamed_eq_some {b : Byte} {c : Cell} : cellNamed b = some c ↔ b.toNat = c.val := by
  unfold cellNamed
  split
  · simp [Fin.ext_iff]
  · have := c.isLt
    simp; omega

section sendingCell
variable {s : State} {named : Byte} {home : Option Cell} {c : Cell}

theorem sendingCell_of_named (hc : named.toNat = c.val) (hup : s.cellUp c = true) :
    sendingCell s named home = some c := by
  simp [sendingCell, cellNamed_eq_some.2 hc, Option.filter, hup]

theorem sendingCell_of_home (hnone : ∀ c : Cell, named.toNat = c.val → s.cellUp c = false) :
    sendingCell s named home = home.filter s.cellUp := by
  unfold sendingCell
  rw [Option.filter_eq_none_iff.2 fun c hc => by simp [hnone c (cellNamed_eq_some.1 hc)], Option.none_or]

end sendingCell

section forwardDown
variable {r : Passed} {s : State} {crane : Option CraneState} {origin : Origin} {c : Cell}

theorem forwardDown_of_cell (h : sendingCell s r.header.cell r.home = some c) :
    forwardDown r crane origin s = sentDown r crane origin c s := by
  simp only [forwardDown, h]
  rfl

theorem forwardDown_of_none (h : sendingCell s r.header.cell r.home = none) :
    forwardDown r crane origin s = sentNowhere r crane s := by
  simp only [forwardDown, h]
  rfl

/-- A downlink frame goes out on the cell its header names, else on the home cell, each if it is up (R30). -/
theorem forwardDown_cases (r : Passed) (crane : Option CraneState) (origin : Origin) (s : State) :
    (∀ c, namesCell r c → s.cellUp c = true → forwardDown r crane origin s = sentDown r crane origin c s) ∧
    ((∀ c, namesCell r c → s.cellUp c = false) →
      (∀ c, r.home = some c → s.cellUp c = true → forwardDown r crane origin s = sentDown r crane origin c s) ∧
      ((∀ c, r.home = some c → s.cellUp c = false) → forwardDown r crane origin s = sentNowhere r crane s)) := by
  refine ⟨fun c hc hup => forwardDown_of_cell (sendingCell_of_named hc hup), fun hnone =>
    ⟨fun c hc hup => forwardDown_of_cell ?_, fun hhome => forwardDown_of_none ?_⟩⟩
  · rw [sendingCell_of_home hnone, hc, Option.filter_some_pos hup]
  · rw [sendingCell_of_home hnone]
    exact Option.filter_eq_none_iff.2 fun c hc => by simp [hhome c hc]

end forwardDown

end Sys2Proof.Machine

section
open Sys2Proof Sys2Proof.Machine

/-- Settles O13: the port's state, then the check sequence, then EtherType, port and destination decide. -/
theorem arrivalSorting : Obligations.ArrivalSorting := by
  intro s p f a foreign malformed received
  have hforeign : dropForeign p f (countReceived p s) = present (plainVerdict p f .dropMalformed) foreign := by
    rw [dropForeign, countForeign_countReceived]; rfl
  have hmalformed : dropMalformed p f none .none (countReceived p s) =
      present (plainVerdict p f .dropMalformed) malformed := by
    rw [dropMalformed, countMalformed_countReceived]; rfl
  refine ⟨fun right hup => ?_, fun hup => ?_, fun hup hother => ?_⟩
  · rw [exec_frameArrival, execFrameArrival, hup]; rfl
  · rw [exec_frameArrival, execFrameArrival, hup]; rfl
  · rw [exec_frameArrival_right f hup, classify_of_otherType p hother]
    refine ⟨fun hm => by rw [if_neg hm, hforeign], fun hm => ?_⟩
    rw [if_pos hm, takeManagementFrame, show (countReceived p s).identity = s.identity from rfl]
    refine ⟨fun hp => by rw [if_neg hp, hmalformed], fun hp hdst => ?_, fun hp hdst => ?_⟩
    · rw [if_pos hp, if_neg hdst, hforeign]
    · rw [if_pos hp, if_pos hdst]; rfl

/-- Settles O14: the three tests in their order, each with its one counter. -/
theorem requestsJudged : Obligations.RequestsJudged := by
  intro s f e permitted
  have hallowed : s.sourceAllowed f.src = true ↔ permitted := s.sourceAllowed_iff f.src
  refine ⟨fun hp => ?_, fun hp => ?_⟩
  · rw [judgeRequest, if_pos (by simpa using hallowed.not.2 hp)]
  · rw [judgeRequest, if_neg (by simpa using hallowed.2 hp)]
    refine ⟨fun hq => by rw [hq], fun q hq => ?_⟩
    obtain ⟨hsource, h1, h32⟩ := readRequest_some hq
    rw [hq]
    exact ⟨hsource, h1, h32, fun hfull => if_pos hfull, fun hroom => if_neg (Nat.not_le.2 hroom)⟩

/-- Settles O17: the treatment of the named descriptor, and that of its target, decide. -/
theorem descriptorResolution : Obligations.DescriptorResolution := by
  intro s p f dir htakes hheader hlength hdir received i touched
  have hexec : exec (.frameArrival p f true) s = .next (resolveDescriptor p f (readHeader f.data) dir received) := by
    rw [exec_frameArrival_of_takesBearer htakes, takeBearerFrame_of_sound hheader hlength hdir]; rfl
  have htreat : ∀ j, (received.bearer j).treatment = (s.bearer j).treatment := fun j => rfl
  rw [hexec]
  simp only [← htreat]
  refine ⟨fun h0 => by rw [resolveDescriptor_null h0]; rfl, fun h0 => ⟨fun ht => ?_, fun ht => ?_,
    fun target ht => ?_⟩⟩
  · rw [resolveDescriptor_absent h0 ht]; rfl
  · rw [resolveDescriptor_governs h0 ht]; rfl
  · rw [resolveDescriptor_redirect h0 ht]
    refine ⟨fun hfault => ?_, fun hsound => ?_⟩
    · rw [redirect_faulty (by rw [touch_treatment]; exact hfault)]; rfl
    · rw [redirect_sound (by rw [touch_treatment]; exact hsound), touch_touch]; rfl

/-- Settles O18: the refill, the judgement against it and what is drawn are the model's own three definitions. -/
theorem bucketAtFrame : Obligations.BucketAtFrame := by
  intro d now length burst rate m level
  have hlevel : d.refilled now = level := rfl
  refine ⟨fun h0 => ⟨if_pos h0, if_pos h0⟩, fun h0 => ⟨fun hin => ?_, fun hout => ?_⟩⟩
  · rw [← hlevel] at hin
    exact ⟨Descriptor.police_of_within hin, by rw [Descriptor.drawn, if_neg h0, if_pos hin, hlevel]⟩
  · rw [← hlevel] at hout
    exact ⟨by rw [Descriptor.drawn, if_neg h0, if_neg (Nat.not_le.2 hout), hlevel],
      Descriptor.police_of_beyond h0 hout⟩

/-- Settles O19: the record check, then the policer's outcome, decide; the classification result is read from the frame
that is handed on. -/
theorem governedFrames : Obligations.GovernedFrames := by
  intro s p f dir i h d length outcome after hdir
  have hafter : (s.bearer i).afterFrame s.quayTime (10 + h.payloadLength) = after :=
    (s.bearer i).afterFrame_eq s.quayTime (10 + h.payloadLength)
  refine ⟨fun hm => ?_, fun hm => ⟨fun hout => ⟨fun l hl => ?_, fun hl => ?_⟩, fun hout => ?_⟩⟩
  · rw [govern_of_missing hm]; rfl
  · rw [govern_of_dropped hm hout, hafter, classGiven, if_pos ⟨l, hl⟩]
    show present (bearerVerdict p f (kindOf d.treatment) _ _) (countExcess d.treatment _) = _
    rw [hl]; rfl
  · rw [govern_of_dropped hm hout, hafter, classGiven, if_neg (by simpa using hl), countExcess_of_not_crane hl]; rfl
  · intro payload cls trailer passed
    have hpassed : passedFrame p f h dir i d cls = passed := by
      have ht := passedFrame_trailer p f h dir i d cls
      show { passedFrame p f h dir i d cls with trailer := (passedFrame p f h dir i d cls).trailer } = passed
      rw [ht]; rfl
    refine ⟨by rw [govern_of_passed hm hout, hafter, ← hpassed], passed.record, fun crane => rfl,
      fun l hl => ?_, fun slot absorb hr => ?_, fun hl hr => ?_⟩
    · simp only [Passed.record, passed, hl]
    · simp only [Passed.record, passed, hr]; cases dir <;> rfl
    · show Passed.record passed = none
      have hk : passed.treatment = d.treatment := rfl
      unfold Passed.record
      cases htr : d.treatment with
      | crane l => exact absurd htr (hl l)
      | reefer a b => exact absurd htr (hr a b)
      | _ => rw [hk, htr]

/-- Settles O20: the kind and the direction decide, and for a downlink frame its two cells. -/
theorem passedFramesHandedOn : Obligations.PassedFramesHandedOn := by
  intro s r
  refine ⟨fun g ht hd => ?_, fun i absorb ht hd => ?_, fun ht hd => ?_⟩
  · simp only [handOn, ht, hd]; rfl
  · intro segment taken
    have hon : handOn r s = takeReeferUp i absorb r s := by simp only [handOn, ht, hd]
    exact ⟨fun h => by rw [hon, h]; rfl, fun h => by rw [hon, h]; rfl⟩
  · have hon : handOn r s = forwardDown r none (.forwarded (r.result none)) s := by
      rcases ht with ⟨g, ht⟩ | ⟨i, a, ht⟩ <;> simp only [handOn, ht, hd]
    rw [hon]
    exact forwardDown_cases ..

end

/-! PROOFS. The Reefer Registry: the reports it refuses and accepts, and what it forgets (O40, O42, O44). -/

namespace Sys2Proof.Machine

/-! ### Deadlines -/

/-- A deadline is due when it is armed and has been reached. -/
theorem due_iff {now : QuayTime} {o : Option QuayTime} : due now o = true ↔ ∃ d, o = some d ∧ reached now d = true := by
  cases o <;> simp [due]

theorem due_eq_false {now : QuayTime} {o : Option QuayTime} (h : ∀ d, o = some d → reached now d = false) :
    due now o = false := by
  cases o with
  | none => rfl
  | some d => exact h d rfl

theorem due_of_reached {now d : QuayTime} {o : Option QuayTime} (ho : o = some d) (h : reached now d = true) :
    due now o = true :=
  due_iff.2 ⟨d, ho, h⟩

/-! ### Changed slots (R132, R139) -/

theorem EdgeSelect.enters_iff {e : EdgeSelect} : e.enters = true ↔ e = .enter ∨ e = .both := by
  cases e <;> simp [EdgeSelect.enters]

theorem EdgeSelect.leaves_iff {e : EdgeSelect} : e.leaves = true ↔ e = .leave ∨ e = .both := by
  cases e <;> simp [EdgeSelect.leaves]

/-- A slot whose record has been replaced and which is then found changed: its flag is set, and it joins the list
unless it was in it. -/
theorem markChanged_setRecord (i : Slot) (r : ReeferRecord) (s : State) :
    markChanged i (s.setRecord i r) = { s with registry := { s.registry with
      slots := s.registry.slots.set i.val { s.slot i with record := { r with changed := true } }
      changeList := if r.changed then s.registry.changeList else s.registry.changeList ++ [i] } } := by
  unfold markChanged
  rw [State.slot_setRecord_same]
  cases hc : r.changed with
  | true =>
    rw [if_pos rfl, if_pos rfl, ← hc]
    rfl
  | false =>
    simp [State.setRecord, State.slot]

/-! ### Checks (R124 to R127) -/

section checks
variable {p : Profile} {power : Option Power} {confirmed setpoint : Option Int} {before : Bool} {c sp : Int}

theorem highCheck_of_unset (h : power = some .defrost ∨ confirmed = none ∨ setpoint = none) :
    highCheck p power confirmed setpoint before = before := by
  cases confirmed <;> cases setpoint <;> simp [highCheck]
  intro hp
  simp [hp] at h

theorem lowCheck_of_unset (h : confirmed = none ∨ setpoint = none) : lowCheck p confirmed setpoint before = before := by
  cases confirmed <;> cases setpoint <;> simp [lowCheck] at h ⊢

theorem highCheck_of_set (h : power ≠ some .defrost) :
    highCheck p power (some c) (some sp) before =
      if before then !decide (c ≤ sp + (p.highMargin : Int) - (p.hysteresis : Int))
      else decide (sp + (p.highMargin : Int) < c) :=
  if_neg h

theorem lowCheck_of_set : lowCheck p (some c) (some sp) before =
    if before then !decide (sp - (p.lowMargin : Int) + (p.hysteresis : Int) ≤ c)
    else decide (c < sp - (p.lowMargin : Int)) :=
  rfl

end checks

/-- The notice of one check goes out on the edges its profile selects. -/
theorem checkNotice_eq (i : Slot) (edges : EdgeSelect) (level : Nat) (enter leave : Event) (before after : Bool)
    (data : Option (BitVec 16)) (s : State) :
    checkNotice i edges level enter leave before after data s =
      if before = false ∧ after = true ∧ (edges = .enter ∨ edges = .both) then s.notify enter i.val level data
      else if before = true ∧ after = false ∧ (edges = .leave ∨ edges = .both) then s.notify leave i.val level data
      else s := by
  cases before <;> cases after <;> simp [checkNotice, EdgeSelect.enters_iff, EdgeSelect.leaves_iff]

/-! ### The values of a report (R119, R121) -/

theorem wasLimited_iff (o : Option Int) : wasLimited o = true ↔ ∃ t, o = some t ∧ (t < -500 ∨ 500 < t) := by
  cases o with
  | none => simp [wasLimited]
  | some t =>
    have hlimit : ¬limitTemp t = t ↔ t < -500 ∨ 500 < t := by unfold limitTemp; omega
    simp only [wasLimited, Bool.not_eq_true', decide_eq_false_iff_not, hlimit, Option.some.injEq, exists_eq_left']

theorem rangeFlagOf_iff (rep : Report) : rangeFlagOf rep = true ↔
    (∃ t, (rep.supply = some t ∨ rep.returnTemp = some t ∨ rep.setpoint = some t) ∧ (t < -500 ∨ 500 < t)) ∨
    (rep.powerCode ≠ 1 ∧ rep.powerCode ≠ 2 ∧ rep.powerCode ≠ 3) ∨ 4 < rep.alarmCount ∨ 0 ∈ rep.alarms := by
  have hpower : within 1 3 rep.powerCode.toNat = false ↔ rep.powerCode ≠ 1 ∧ rep.powerCode ≠ 2 ∧ rep.powerCode ≠ 3 := by
    simp only [within, Bool.and_eq_false_iff, decide_eq_false_iff_not, ne_eq, ← BitVec.toNat_inj]
    simp
    omega
  simp only [rangeFlagOf, Bool.or_eq_true, wasLimited_iff, Bool.not_eq_true', hpower, decide_eq_true_eq,
    List.contains_iff_mem, or_and_right, exists_or, or_assoc]

section accumulated
variable {p : Profile} {now : QuayTime} {r : ReeferRecord}

theorem accumulated_of_beyond {c sp : Int} (hc : r.confirmed = some c) (hsp : r.setpoint = some sp)
    (hf : r.freshness = .fresh ∨ r.freshness = .stale) (h : (p.band : Int) < c - sp) :
    accumulated p now r = min 4294967295
      (r.excursion + (c - sp - (p.band : Int)).toNat * min 600 ((now - r.lastTime).toNat / 1000)) := by
  simp only [accumulated, hc, hsp, if_pos (And.intro hf h), chargedSeconds]

theorem accumulated_of_within (h : r.confirmed = none ∨ r.setpoint = none ∨ r.freshness = .never ∨
    r.freshness = .lost ∨ ∃ c sp, r.confirmed = some c ∧ r.setpoint = some sp ∧ c - sp ≤ (p.band : Int)) :
    accumulated p now r = r.excursion := by
  unfold accumulated
  split
  next c sp hc hsp =>
    refine if_neg fun ⟨hf, hb⟩ => ?_
    rcases h with h | h | h | h | ⟨c', sp', hc', hsp', h⟩
    · rw [hc] at h; cases h
    · rw [hsp] at h; cases h
    · rw [h] at hf; simp at hf
    · rw [h] at hf; simp at hf
    · rw [hc] at hc'; rw [hsp] at hsp'
      cases hc'; cases hsp'; omega
  next => rfl

end accumulated

theorem supplyMoved_iff (delta : Nat) (confirmed summarised : Option Int) :
    supplyMoved delta confirmed summarised = true ↔
      (∃ c q, confirmed = some c ∧ summarised = some q ∧ delta ≤ (c - q).natAbs) ∨
        confirmed.isSome ≠ summarised.isSome := by
  cases confirmed <;> cases summarised <;> simp [supplyMoved]

theorem differs_iff (p : Profile) (b a : ReeferRecord) : differs p b a = true ↔
    a.high ≠ b.high ∨ a.low ≠ b.low ∨ a.powerCheck ≠ b.powerCheck ∨ a.alarmCheck ≠ b.alarmCheck ∨
      a.freshness ≠ b.freshness ∨ a.power ≠ b.power ∨ a.alarms ≠ b.alarms ∨
      (∃ c q, a.confirmed = some c ∧ a.summarised = some q ∧ p.reportDelta ≤ (c - q).natAbs) ∨
      a.confirmed.isSome ≠ a.summarised.isSome := by
  simp only [differs, Bool.or_eq_true, Bool.not_eq_true', decide_eq_false_iff_not, supplyMoved_iff, or_assoc, ne_eq]

/-! ### Reports (R115 to R118) -/

/-- The record an accepted report leaves, with its changed flag (R118, R132). -/
def reportedRecord (p : Profile) (now : QuayTime) (rep : Report) (b : ReeferRecord) : ReeferRecord :=
  { acceptedRecord p now rep b with changed := b.changed || differs p b (acceptedRecord p now rep b) }

/-- The state with an accepted report stored, before its notices (R118, R132, R139). -/
def storeReport (i : Slot) (rep : Report) (s : State) : State :=
  let b := (s.slot i).record
  let p := s.profileOf i
  { s with registry := { s.registry with
    accepted := s.registry.accepted + 1
    slots := s.registry.slots.set i.val { s.slot i with record := reportedRecord p s.quayTime rep b }
    changeList := if differs p b (acceptedRecord p s.quayTime rep b) = true ∧ b.changed = false
      then s.registry.changeList ++ [i] else s.registry.changeList } }

theorem acceptReport_eq (i : Slot) (rep : Report) (s : State) :
    acceptReport i rep s = reportNotices i (s.profileOf i) (s.slot i).record
      (acceptedRecord (s.profileOf i) s.quayTime rep (s.slot i).record) (storeReport i rep s) := by
  have hchanged : (acceptedRecord (s.profileOf i) s.quayTime rep (s.slot i).record).changed =
      (s.slot i).record.changed := rfl
  have hmark : ∀ r : ReeferRecord,
      markChanged i { s.setRecord i r with registry := { (s.setRecord i r).registry with
        accepted := (s.setRecord i r).registry.accepted + 1 } } =
      markChanged i (({ s with registry := { s.registry with accepted := s.registry.accepted + 1 } } : State).setRecord
        i r) := fun r => rfl
  unfold acceptReport storeReport reportedRecord
  simp only [hmark, markChanged_setRecord]
  congr 1
  cases hd : differs (s.profileOf i) (s.slot i).record
      (acceptedRecord (s.profileOf i) s.quayTime rep (s.slot i).record) with
  | true =>
    rw [if_pos rfl, hchanged]
    cases (s.slot i).record.changed <;> rfl
  | false =>
    rw [if_neg (by decide), Bool.or_false, ← hchanged]
    rfl

section takeReport
variable {i : Slot} {rep : Report} {s : State}

/-- The state with a report counted as taken (R136). -/
def State.reportTaken (s : State) : State := { s with registry := { s.registry with taken := s.registry.taken + 1 } }

theorem takeReport_unregistered (h : (s.slot i).config.registered = false) :
    takeReport i rep s =
      { s.reportTaken with registry := { s.reportTaken.registry with unregistered := s.registry.unregistered + 1 } } :=
  if_pos (by rw [Bool.not_eq_true']; exact h)

theorem takeReport_registered (h : (s.slot i).config.registered = true) :
    takeReport i rep s =
      if rep.mark = (s.slot i).config.mark then
        if (s.slot i).record.lastCounter = some rep.counter then repeatReport i s.reportTaken
        else acceptReport i rep s.reportTaken
      else mismatchReport i rep s.reportTaken := by
  refine (if_neg ?_).trans ?_
  · rw [Bool.not_eq_true', Bool.not_eq_false]
    exact h
  · by_cases hm : rep.mark = (s.slot i).config.mark
    · rw [if_pos hm]
      exact if_neg (by rw [Bool.not_eq_true', decide_eq_false_iff_not, not_not]; exact hm)
    · rw [if_neg hm]
      exact if_pos (by rw [Bool.not_eq_true', decide_eq_false_iff_not]; exact hm)

end takeReport

theorem exec_staleDeadlineExpiry (i : Slot) (s : State) :
    exec (.staleDeadlineExpiry i) s = .next (
      if due s.quayTime (s.slot i).record.stale then
        if (s.profileOf i).staleEdges.enters then
          (markChanged i (s.setRecord i { (s.slot i).record with freshness := .stale, stale := none })).notify
            .staleEnter i.val (s.profileOf i).staleLevel (supplyWord (s.slot i).record)
        else markChanged i (s.setRecord i { (s.slot i).record with freshness := .stale, stale := none })
      else s) :=
  rfl

theorem exec_lostDeadlineExpiry (i : Slot) (s : State) :
    exec (.lostDeadlineExpiry i) s = .next (
      if due s.quayTime (s.slot i).record.lost then
        (markChanged i (s.setRecord i { (s.slot i).record with
          freshness := .lost, lost := none, confirmed := none, candidateCount := 0 })).notify .lost i.val
            (s.profileOf i).staleLevel none
      else s) :=
  rfl

end Sys2Proof.Machine

section
open Sys2Proof Sys2Proof.Machine

/-- Settles O40: each of the three expiries is one change of its record, under the test that its deadline is due. -/
theorem recordsForget : Obligations.RecordsForget := by
  intro s
  have hage : ∀ i : Fin 2048, exec (.ageDeadlineExpiry i) s =
      .next (if due s.quayTime (s.cover i.val).age then { s with coverage := { s.coverage with
        entries := s.coverage.entries.set i.val (s.cover i.val).forget
        aged := bump16 s.coverage.aged } } else s) := fun i => rfl
  refine ⟨fun i h => by rw [hage, due_eq_false h]; rfl, fun i d hd h => by rw [hage, due_of_reached hd h]; rfl,
    fun i => ?_⟩
  intro r p listed gone
  have hlisted : ∀ v : ReeferRecord, v.changed = r.changed → markChanged i (s.setRecord i v) = listed v :=
    fun v hv => by rw [markChanged_setRecord, hv]
  rw [exec_staleDeadlineExpiry, exec_lostDeadlineExpiry, hlisted _ (by rfl), hlisted _ (by rfl)]
  refine ⟨fun h => by rw [due_eq_false h]; rfl, fun d hd h => ?_, fun h => by rw [due_eq_false h]; rfl,
    fun d hd h => by rw [due_of_reached hd h]; rfl⟩
  rw [due_of_reached hd h, if_pos rfl]
  refine ⟨fun he => ?_, fun he => ?_⟩
  · rw [if_pos (EdgeSelect.enters_iff.2 he)]; rfl
  · rw [if_neg (EdgeSelect.enters_iff.not.2 he)]

/-- Settles O42: the tests in their order, each refusal with its counters and, for a mismatch, its notice. -/
theorem reportsRefused : Obligations.ReportsRefused := by
  intro s i rep g v
  refine ⟨fun h => ?_, fun h hm => ?_, fun h hm hc => ?_⟩
  · rw [takeReport_unregistered h]; rfl
  · rw [takeReport_registered h, if_neg hm]; rfl
  · rw [takeReport_registered h, if_pos hm, if_pos hc]; rfl

/-- Settles O44: the accepted record is read off field by field, and the notices are those of its edges, in order. -/
theorem reportsAccepted : Obligations.ReportsAccepted := by
  intro s i rep b p limit seconds hreg hmark hcounter
  refine ⟨reportedRecord p s.quayTime rep b, differs p b (acceptedRecord p s.quayTime rep b), ?_⟩
  refine ⟨fun c sp hc hsp hf hb => accumulated_of_beyond hc hsp hf hb, fun h => accumulated_of_within h, rfl, ?_, ?_, rfl,
    ?_, rangeFlagOf_iff rep, highCheck_of_unset, lowCheck_of_unset, fun c sp hc hsp => ?_, ?_, ?_, rfl, rfl, rfl, rfl,
    rfl, rfl, rfl, rfl, differs_iff p b _, rfl, ?_⟩
  · show (rep.returnTemp.map limitTemp).or b.returnTemp = _
    cases rep.returnTemp <;> rfl
  · show (rep.setpoint.map limitTemp).or b.setpoint = _
    cases rep.setpoint <;> rfl
  · show rep.alarms.filter (fun a => !decide (a = 0)) = _
    simp only [ne_eq, decide_not]
  · generalize ha : reportedRecord p s.quayTime rep b = a at hc hsp ⊢
    have hhigh : a.high = highCheck p a.power a.confirmed a.setpoint b.high := by rw [← ha]; rfl
    have hlow : a.low = lowCheck p a.confirmed a.setpoint b.low := by rw [← ha]; rfl
    rw [hhigh, hlow, hc, hsp, lowCheck_of_set]
    refine ⟨fun hp => ?_, fun h => by simp [h], fun h => by simp [h]⟩
    rw [highCheck_of_set hp]
    exact ⟨fun h => by simp [h], fun h => by simp [h]⟩
  · exact decide_eq_true_iff
  · show (!List.isEmpty _) = true ↔ _
    simp
    rfl
  · intro word stored edge checked
    rw [takeReport_registered hreg, if_pos hmark, if_neg hcounter, acceptReport_eq]
    have hstored : storeReport i rep s.reportTaken = stored := rfl
    rw [hstored]
    simp only [reportNotices, checkNotice_eq]
    have hfresh : (decide (b.freshness = .stale ∨ b.freshness = .lost) && p.staleEdges.leaves) = true ↔
        (b.freshness = .stale ∨ b.freshness = .lost) ∧ (p.staleEdges = .leave ∨ p.staleEdges = .both) := by
      simp [EdgeSelect.leaves_iff]
    exact if_congr hfresh rfl rfl

end

/-! PROOFS. The Capture Unit: what a presentation brings (O21). The unit's own moves are separated from the notices they
bring, which read nothing of the unit. -/

namespace Sys2Proof.Machine

/-! ### Notices and the Capture Unit -/

/-- An offered notice reads and changes nothing of the Capture Unit. -/
theorem State.notify_withCapture (w : State) (c : CaptureUnit) (ev : Event) (i level : Nat)
    (data : Option (BitVec 16)) :
    ({ w with capture := c } : State).notify ev i level data = { w.notify ev i level data with capture := c } := by
  have h : w.notify ev i level data = { w with
      store := (w.notify ev i level data).store, notices := (w.notify ev i level data).notices
      capture := (w.notify ev i level data).capture } := w.agrees_notify ev i level data
  rw [State.notify_capture, h]

/-- The notice of a trigger (R172). -/
def State.noteTriggered (v : Verdict) (s : State) : State := s.notify .triggered 0 (s.setting 53) v.bearerWord

/-- The notice of entry to FROZEN, with the number of entries held (R172). -/
def State.noteFrozen (held : Nat) (s : State) : State :=
  s.notify .frozen 0 (s.setting 53) (some (BitVec.ofNat 16 held))

theorem State.setting_notify (s : State) (ev : Event) (i level : Nat) (data : Option (BitVec 16)) (k : Nat) :
    (s.notify ev i level data).setting k = s.setting k := by
  rw [State.setting, (s.agrees_notify ev i level data).fields.2.2.2.1]
  rfl

theorem State.noteFrozen_withCapture (w : State) (c : CaptureUnit) (held : Nat) :
    ({ w with capture := c } : State).noteFrozen held = { w.noteFrozen held with capture := c } :=
  w.notify_withCapture c .frozen 0 (w.setting 53) _

theorem freeze_eq (s : State) :
    freeze s = { s.noteFrozen s.capture.buffer.length with capture := { s.capture with state := .frozen } } :=
  s.notify_withCapture { s.capture with state := .frozen } .frozen 0 (s.setting 53)
    (some (BitVec.ofNat 16 s.capture.buffer.length))

theorem freeze_withCapture (w : State) (c : CaptureUnit) :
    freeze { w with capture := c } = { w.noteFrozen c.buffer.length with capture := { c with state := .frozen } } :=
  w.notify_withCapture { c with state := .frozen } .frozen 0 (w.setting 53) (some (BitVec.ofNat 16 c.buffer.length))

/-- The trigger of the unit, and the notices it brings (R171, R172). -/
theorem trigger_eq (v : Verdict) (s : State) :
    trigger v s =
      if s.capture.config.mode = .aThenTrace then { s.noteTriggered v with capture := { s.capture with
        triggers := bump16 s.capture.triggers, state := .tracing, traceCount := 0 } }
      else if s.capture.config.post = 0 then { (s.noteTriggered v).noteFrozen s.capture.buffer.length with
        capture := { s.capture with triggers := bump16 s.capture.triggers, state := .frozen, postCount := 0 } }
      else { s.noteTriggered v with capture := { s.capture with
        triggers := bump16 s.capture.triggers, state := .post, postCount := 0 } } := by
  have hnotify := s.notify_withCapture { s.capture with triggers := bump16 s.capture.triggers } .triggered 0
    (s.setting 53) v.bearerWord
  have hfreeze := freeze_eq { s.noteTriggered v with capture := { s.capture with
    triggers := bump16 s.capture.triggers, state := .post, postCount := 0 } }
  unfold trigger
  generalize hX : ({ s with capture := _ } : State).notify .triggered 0 _ _ = X
  obtain rfl : X = _ := hX.symm.trans hnotify
  refine if_congr Iff.rfl rfl (if_congr Iff.rfl (hfreeze.trans ?_) rfl)
  rw [State.noteFrozen_withCapture]

theorem State.noteTriggered_withCapture (w : State) (c : CaptureUnit) (v : Verdict) :
    ({ w with capture := c } : State).noteTriggered v = { w.noteTriggered v with capture := c } :=
  w.notify_withCapture c .triggered 0 (w.setting 53) _

theorem trigger_withCapture (v : Verdict) (w : State) (c : CaptureUnit) :
    trigger v { w with capture := c } =
      if c.config.mode = .aThenTrace then { w.noteTriggered v with capture := { c with
        triggers := bump16 c.triggers, state := .tracing, traceCount := 0 } }
      else if c.config.post = 0 then { (w.noteTriggered v).noteFrozen c.buffer.length with capture := { c with
        triggers := bump16 c.triggers, state := .frozen, postCount := 0 } }
      else { w.noteTriggered v with capture := { c with
        triggers := bump16 c.triggers, state := .post, postCount := 0 } } := by
  rw [trigger_eq]
  simp only [State.noteTriggered_withCapture, State.noteFrozen_withCapture]

/-! ### What a presentation does to the unit (R170 to R173) -/

section present
variable (u : CaptureUnit) (a b : Bool)

/-- A frame qualifies: it raises the trigger count (R170). -/
def CaptureUnit.qualifies : Prop := (u.state = .sequence ∧ a = true) ∨ (u.state = .armed ∧
  ((u.config.mode = .countA ∧ a = true) ∨ (u.config.mode = .countAOrB ∧ (a = true ∨ b = true)) ∨
    (u.config.mode = .countAAndB ∧ a = true ∧ b = true)))

/-- A frame fires the trigger (R170, R173). -/
def CaptureUnit.fires : Prop := (u.qualifies a b ∧ u.config.n ≤ u.triggerCount + 1) ∨
  (u.state = .armed ∧ u.config.mode = .aThenTrace ∧ a = true)

/-- A frame opens the sequence: from it on matcher A counts (R170). -/
def CaptureUnit.opens : Prop := u.state = .armed ∧ u.config.mode = .bThenCountA ∧ b = true

theorem CaptureUnit.records_iff : u.records a b = true ↔ u.state = .tracing ∨
    ((u.state = .armed ∨ u.state = .sequence ∨ u.state = .post) ∧
      (u.config.matchedOnly = false ∨ a = true ∨ b = true)) := by
  unfold CaptureUnit.records
  cases u.state <;> simp [or_assoc]

end present

section moves
variable (s : State) (v : Verdict)

/-- A presented frame qualifies. -/
abbrev State.qualifies : Prop :=
  s.capture.qualifies (s.capture.config.a.meets v) (s.capture.config.b.meets v)

/-- A presented frame fires the trigger. -/
abbrev State.fires : Prop := s.capture.fires (s.capture.config.a.meets v) (s.capture.config.b.meets v)

/-- A presented frame opens the sequence. -/
abbrev State.opens : Prop := s.capture.opens (s.capture.config.b.meets v)

/-- A presented frame is recorded. -/
abbrev State.recorded : Prop :=
  s.capture.records (s.capture.config.a.meets v) (s.capture.config.b.meets v) = true

/-- The state with a presentation's hits and entry taken, before the unit moves (R167, R168). -/
def State.seen : State := { s with
  capture := s.capture.see s.quayTime v (s.capture.config.a.meets v) (s.capture.config.b.meets v) }

/-- What the hits and the entry of a presentation leave alone. -/
theorem State.seen_moves : (s.seen v).capture.state = s.capture.state ∧ (s.seen v).capture.config = s.capture.config ∧
    (s.seen v).capture.triggerCount = s.capture.triggerCount ∧ (s.seen v).capture.postCount = s.capture.postCount ∧
    (s.seen v).capture.traceCount = s.capture.traceCount ∧ (s.seen v).capture.triggers = s.capture.triggers := by
  unfold State.seen
  rw [CaptureUnit.see_eq]
  exact ⟨rfl, rfl, rfl, rfl, rfl, rfl⟩

variable {s v}

theorem present_armed (h : s.capture.state = .armed) :
    present v s = actArmed v (s.capture.config.a.meets v) (s.capture.config.b.meets v) (s.seen v) := by
  unfold present
  simp only [h]
  rfl

theorem present_sequence (h : s.capture.state = .sequence) :
    present v s = if s.capture.config.a.meets v then countToTrigger v (s.seen v) else s.seen v := by
  unfold present
  simp only [h]
  rfl

theorem present_post (h : s.capture.state = .post) :
    present v s = actPost (s.capture.records (s.capture.config.a.meets v) (s.capture.config.b.meets v)) (s.seen v) := by
  unfold present
  simp only [h]
  rfl

theorem present_tracing (h : s.capture.state = .tracing) : present v s = actTracing (s.seen v) := by
  unfold present
  simp only [h]
  rfl

theorem present_inactive (h : s.capture.state = .off ∨ s.capture.state = .frozen) : present v s = s.seen v := by
  unfold present
  rcases h with h | h <;> simp only [h] <;> rfl

theorem present_of_qualifies (h : s.qualifies v) :
    present v s = countToTrigger v (s.seen v) := by
  obtain ⟨-, hconfig, -⟩ := s.seen_moves v
  rcases h with ⟨hs, ha⟩ | ⟨hs, hm⟩
  · rw [present_sequence hs, if_pos ha]
  · rw [present_armed hs]
    unfold actArmed
    rcases hm with ⟨hm, ha⟩ | ⟨hm, hab⟩ | ⟨hm, ha, hb⟩ <;> simp only [hconfig, hm]
    · exact if_pos ha
    · exact if_pos (by simpa using hab)
    · exact if_pos (by simp [ha, hb])

/-- The trigger is fired by a frame that is counted, or by one that is not. -/
theorem present_of_fires (h : s.fires v) :
    ∃ n, (s.qualifies v →
        n = s.capture.triggerCount + 1) ∧
      (¬s.qualifies v → n = s.capture.triggerCount) ∧
      present v s = trigger v { s with capture := { (s.seen v).capture with triggerCount := n } } := by
  obtain ⟨-, hconfig, hcount, -⟩ := s.seen_moves v
  rcases h with ⟨hq, hn⟩ | ⟨hs, hm, ha⟩
  · refine ⟨s.capture.triggerCount + 1, fun _ => rfl, fun h => absurd hq h, ?_⟩
    rw [present_of_qualifies hq, ← hcount]
    exact if_pos (by rw [← hconfig, ← hcount] at hn; exact hn)
  · refine ⟨s.capture.triggerCount, fun hq => ?_, fun _ => rfl, ?_⟩
    · rcases hq with ⟨hq, -⟩ | ⟨-, ⟨hq, -⟩ | ⟨hq, -⟩ | ⟨hq, -⟩⟩
      · rw [hs] at hq; cases hq
      all_goals rw [hm] at hq; cases hq
    · have harmed : actArmed v (s.capture.config.a.meets v) (s.capture.config.b.meets v) (s.seen v) =
          trigger v (s.seen v) := by
        unfold actArmed
        simp only [hconfig, hm]
        exact if_pos ha
      rw [present_armed hs, harmed, ← hcount]
      rfl

theorem present_of_counts (hq : s.qualifies v)
    (h : ¬s.fires v) :
    present v s = { s with capture := { (s.seen v).capture with triggerCount := s.capture.triggerCount + 1 } } := by
  obtain ⟨-, hconfig, hcount, -⟩ := s.seen_moves v
  rw [present_of_qualifies hq, ← hcount]
  exact if_neg fun hn => h (.inl ⟨hq, by rw [← hconfig, ← hcount]; exact hn⟩)

theorem present_of_opens (h : s.opens v) :
    present v s = { s with capture := { (s.seen v).capture with state := .sequence, triggerCount := 0 } } := by
  obtain ⟨-, hconfig, -⟩ := s.seen_moves v
  obtain ⟨hs, hm, hb⟩ := h
  rw [present_armed hs]
  unfold actArmed
  simp only [hconfig, hm]
  exact if_pos hb

theorem present_of_posts (hs : s.capture.state = .post)
    (hr : s.recorded v) :
    present v s =
      if s.capture.config.post ≤ s.capture.postCount + 1 then { s.noteFrozen (s.seen v).capture.buffer.length with
        capture := { (s.seen v).capture with postCount := s.capture.postCount + 1, state := .frozen } }
      else { s with capture := { (s.seen v).capture with postCount := s.capture.postCount + 1 } } := by
  obtain ⟨-, hconfig, -, hcount, -⟩ := s.seen_moves v
  rw [present_post hs, hr, ← hconfig, ← hcount]
  exact (if_pos rfl).trans (if_congr Iff.rfl (freeze_withCapture s { (s.seen v).capture with
    postCount := (s.seen v).capture.postCount + 1 }) rfl)

theorem present_of_traces (hs : s.capture.state = .tracing) :
    present v s =
      if s.capture.config.n ≤ s.capture.traceCount + 1 then { s.noteFrozen (s.seen v).capture.buffer.length with
        capture := { (s.seen v).capture with traceCount := s.capture.traceCount + 1, state := .frozen } }
      else { s with capture := { (s.seen v).capture with traceCount := s.capture.traceCount + 1 } } := by
  obtain ⟨-, hconfig, -, -, hcount, -⟩ := s.seen_moves v
  rw [present_tracing hs, ← hconfig, ← hcount]
  exact if_congr Iff.rfl (freeze_withCapture s { (s.seen v).capture with
    traceCount := (s.seen v).capture.traceCount + 1 }) rfl

/-- Any other presentation leaves the unit where it is. -/
theorem present_of_still (hq : ¬s.qualifies v)
    (hf : ¬s.fires v)
    (ho : ¬s.opens v)
    (hp : ¬(s.capture.state = .post ∧
      s.recorded v))
    (ht : s.capture.state ≠ .tracing) : present v s = s.seen v := by
  obtain ⟨-, hconfig, -⟩ := s.seen_moves v
  cases hs : s.capture.state with
  | off => exact present_inactive (.inl hs)
  | frozen => exact present_inactive (.inr hs)
  | tracing => exact absurd hs ht
  | sequence => rw [present_sequence hs, if_neg fun ha => hq (.inl ⟨hs, ha⟩)]
  | post => rw [present_post hs, actPost, if_neg fun hr => hp ⟨hs, hr⟩]
  | armed =>
    rw [present_armed hs]
    unfold actArmed
    cases hm : s.capture.config.mode <;> simp only [hconfig, hm]
    case countA => exact if_neg fun ha => hq (.inr ⟨hs, .inl ⟨hm, ha⟩⟩)
    case countAOrB => exact if_neg fun hab => hq (.inr ⟨hs, .inr (.inl ⟨hm, by simpa using hab⟩)⟩)
    case countAAndB => exact if_neg fun hab => hq (.inr ⟨hs, .inr (.inr ⟨hm, by simpa using hab⟩)⟩)
    case bThenCountA => exact if_neg fun hb => ho ⟨hs, hm, hb⟩
    case aThenTrace => exact if_neg fun ha => hf (.inr ⟨hs, hm, ha⟩)

end moves

/-! ### The whole of a presentation -/

/-- What a presentation leaves: the state with its notices offered, and the unit after its moves. -/
structure Captured (s : State) (v : Verdict) (w : State) (c : CaptureUnit) : Prop where
  eq : present v s = { w with capture := c }
  agrees : s.Agrees w
  sight : c = { (s.seen v).capture with
    state := c.state, triggerCount := c.triggerCount, postCount := c.postCount, traceCount := c.traceCount
    triggers := c.triggers }
  fired : s.fires v → c.triggers = bump16 s.capture.triggers ∧
    (s.capture.config.mode = .aThenTrace → c.state = .tracing ∧ c.traceCount = 0) ∧
    (s.capture.config.mode ≠ .aThenTrace → c.postCount = 0 ∧
      c.state = if s.capture.config.post = 0 then .frozen else .post)
  unfired : ¬s.fires v → c.triggers = s.capture.triggers
  noted : s.fires v → s.capture.config.mode = .aThenTrace ∨ s.capture.config.post ≠ 0 → w = s.noteTriggered v
  notedBoth : s.fires v → s.capture.config.mode ≠ .aThenTrace → s.capture.config.post = 0 →
    w = (s.noteTriggered v).noteFrozen c.buffer.length
  notedFrozen : ¬s.fires v → s.capture.state ≠ .frozen → c.state = .frozen → w = s.noteFrozen c.buffer.length
  unnoted : ¬s.fires v → s.capture.state = .frozen ∨ c.state ≠ .frozen → w = s
  counted : s.qualifies v → c.triggerCount = s.capture.triggerCount + 1
  waits : s.qualifies v → ¬s.fires v → c.state = s.capture.state
  opened : s.opens v → c.state = .sequence ∧ c.triggerCount = 0
  posted : s.capture.state = .post →
    (¬s.recorded v → c.state = .post ∧ c.postCount = s.capture.postCount) ∧
    (s.recorded v → c.postCount = s.capture.postCount + 1 ∧
      c.state = if s.capture.config.post ≤ s.capture.postCount + 1 then .frozen else .post)
  traced : s.capture.state = .tracing → c.traceCount = s.capture.traceCount + 1 ∧
    c.state = if s.capture.config.n ≤ s.capture.traceCount + 1 then .frozen else .tracing
  still : s.capture.state = .armed ∨ s.capture.state = .sequence → ¬s.fires v → ¬s.qualifies v → ¬s.opens v →
    c.state = s.capture.state
  inactive : s.capture.state = .off ∨ s.capture.state = .frozen → c.state = s.capture.state
  uncounted : ¬s.qualifies v → ¬s.opens v → c.triggerCount = s.capture.triggerCount
  postKept : ¬(s.fires v ∧ s.capture.config.mode ≠ .aThenTrace) → ¬(s.capture.state = .post ∧ s.recorded v) →
    c.postCount = s.capture.postCount
  traceKept : ¬(s.fires v ∧ s.capture.config.mode = .aThenTrace) → s.capture.state ≠ .tracing →
    c.traceCount = s.capture.traceCount

section captured
variable {s : State} {v : Verdict}

/-- A frame that qualifies or fires is met in ARMED or SEQUENCE, and opens no sequence. -/
theorem State.qualifies.armed (h : s.qualifies v) :
    (s.capture.state = .armed ∨ s.capture.state = .sequence) ∧ ¬s.opens v := by
  rcases h with ⟨hs, -⟩ | ⟨hs, h⟩
  · exact ⟨.inr hs, fun ⟨ho, _⟩ => by rw [hs] at ho; cases ho⟩
  · refine ⟨.inl hs, fun ⟨_, hm, _⟩ => ?_⟩
    rcases h with ⟨h, -⟩ | ⟨h, -⟩ | ⟨h, -⟩ <;> rw [hm] at h <;> cases h

theorem State.fires.armed (h : s.fires v) :
    (s.capture.state = .armed ∨ s.capture.state = .sequence) ∧ ¬s.opens v := by
  rcases h with ⟨hq, -⟩ | ⟨hs, hm, -⟩
  · exact State.qualifies.armed hq
  · exact ⟨.inl hs, fun ⟨_, ho, _⟩ => by rw [hm] at ho; cases ho⟩

theorem State.agrees_noteFrozen (s : State) (n : Nat) : s.Agrees (s.noteFrozen n) := s.agrees_notify ..

theorem State.agrees_noteTriggered (s : State) (v : Verdict) : s.Agrees (s.noteTriggered v) := s.agrees_notify ..

theorem captured_of_fires (h : s.fires v) : ∃ w c, Captured s v w c := by
  obtain ⟨hstate, hconfig, hcount, hpost, htrace, htrig⟩ := s.seen_moves v
  obtain ⟨harmed, hopens⟩ := State.fires.armed h
  obtain ⟨n, hq, hnq, hp⟩ := present_of_fires h
  rw [trigger_withCapture] at hp
  split at hp
  next hm =>
    rw [hconfig] at hm
    refine ⟨s.noteTriggered v, { (s.seen v).capture with
      triggerCount := n, triggers := bump16 (s.seen v).capture.triggers, state := .tracing, traceCount := 0 }, ?_⟩
    constructor
    case eq => exact hp
    case agrees => exact s.agrees_noteTriggered v
    case sight => rfl
    case counted => exact hq
    case uncounted => exact fun h _ => hnq h
    all_goals rcases harmed with hs | hs <;> simp [*]
  next hm =>
    rw [hconfig] at hm
    split at hp
    next h0 =>
      rw [hconfig] at h0
      refine ⟨(s.noteTriggered v).noteFrozen (s.seen v).capture.buffer.length, { (s.seen v).capture with
        triggerCount := n, triggers := bump16 (s.seen v).capture.triggers, state := .frozen, postCount := 0 }, ?_⟩
      constructor
      case eq => exact hp
      case agrees => exact (s.agrees_noteTriggered v).trans (State.agrees_noteFrozen _ _)
      case sight => rfl
      case counted => exact hq
      case uncounted => exact fun h _ => hnq h
      all_goals rcases harmed with hs | hs <;> simp [*]
    next h0 =>
      rw [hconfig] at h0
      refine ⟨s.noteTriggered v, { (s.seen v).capture with
        triggerCount := n, triggers := bump16 (s.seen v).capture.triggers, state := .post, postCount := 0 }, ?_⟩
      constructor
      case eq => exact hp
      case agrees => exact s.agrees_noteTriggered v
      case sight => rfl
      case counted => exact hq
      case uncounted => exact fun h _ => hnq h
      all_goals rcases harmed with hs | hs <;> simp [*]

theorem captured_of_counts (hq : s.qualifies v) (h : ¬s.fires v) :
    Captured s v s { (s.seen v).capture with triggerCount := s.capture.triggerCount + 1 } := by
  obtain ⟨hstate, hconfig, hcount, hpost, htrace, htrig⟩ := s.seen_moves v
  obtain ⟨harmed, hopens⟩ := State.qualifies.armed hq
  constructor
  case eq => exact present_of_counts hq h
  case agrees => exact rfl
  case sight => rfl
  all_goals rcases harmed with hs | hs <;> simp [*]

theorem captured_of_opens (h : s.opens v) (hq : ¬s.qualifies v) (hf : ¬s.fires v) :
    Captured s v s { (s.seen v).capture with state := .sequence, triggerCount := 0 } := by
  obtain ⟨hstate, hconfig, hcount, hpost, htrace, htrig⟩ := s.seen_moves v
  have hs := h.1
  constructor
  case eq => exact present_of_opens h
  case agrees => exact rfl
  case sight => rfl
  all_goals simp [*]

theorem captured_of_still (hq : ¬s.qualifies v) (hf : ¬s.fires v) (ho : ¬s.opens v)
    (hp : ¬(s.capture.state = .post ∧ s.recorded v)) (ht : s.capture.state ≠ .tracing) :
    Captured s v s (s.seen v).capture := by
  obtain ⟨hstate, hconfig, hcount, hpost, htrace, htrig⟩ := s.seen_moves v
  constructor
  case eq => exact present_of_still hq hf ho hp ht
  case agrees => exact rfl
  case sight => rfl
  case notedFrozen => exact fun _ hn h => absurd (hstate ▸ h) hn
  case posted => exact fun hs => ⟨fun _ => ⟨hstate.trans hs, hpost⟩, fun hr => absurd ⟨hs, hr⟩ hp⟩
  all_goals simp [*]

theorem captured_of_posts (hs : s.capture.state = .post) (hr : s.recorded v) : ∃ w c, Captured s v w c := by
  obtain ⟨hstate, hconfig, hcount, hpost, htrace, htrig⟩ := s.seen_moves v
  have hf : ¬s.fires v := fun h => by have := (State.fires.armed h).1; simp [hs] at this
  have hq : ¬s.qualifies v := fun h => by have := (State.qualifies.armed h).1; simp [hs] at this
  have ho : ¬s.opens v := fun h => by have := h.1; rw [hs] at this; cases this
  have hp := present_of_posts hs hr
  split at hp
  next hn =>
    refine ⟨s.noteFrozen (s.seen v).capture.buffer.length, { (s.seen v).capture with
      postCount := s.capture.postCount + 1, state := .frozen }, ?_⟩
    constructor
    case eq => exact hp
    case agrees => exact s.agrees_noteFrozen _
    case sight => rfl
    case posted => exact fun _ => ⟨fun h => absurd hr h, fun _ => ⟨rfl, (if_pos hn).symm⟩⟩
    case postKept => exact fun _ h => absurd ⟨hs, hr⟩ h
    all_goals simp [*]
  next hn =>
    refine ⟨s, { (s.seen v).capture with postCount := s.capture.postCount + 1 }, ?_⟩
    constructor
    case eq => exact hp
    case agrees => exact rfl
    case sight => rfl
    case posted => exact fun _ => ⟨fun h => absurd hr h, fun _ => ⟨rfl, hstate.trans (hs.trans (if_neg hn).symm)⟩⟩
    case postKept => exact fun _ h => absurd ⟨hs, hr⟩ h
    all_goals simp [*]

theorem captured_of_traces (hs : s.capture.state = .tracing) : ∃ w c, Captured s v w c := by
  obtain ⟨hstate, hconfig, hcount, hpost, htrace, htrig⟩ := s.seen_moves v
  have hf : ¬s.fires v := fun h => by have := (State.fires.armed h).1; simp [hs] at this
  have hq : ¬s.qualifies v := fun h => by have := (State.qualifies.armed h).1; simp [hs] at this
  have ho : ¬s.opens v := fun h => by have := h.1; rw [hs] at this; cases this
  have hp := present_of_traces (v := v) hs
  split at hp
  next hn =>
    refine ⟨s.noteFrozen (s.seen v).capture.buffer.length, { (s.seen v).capture with
      traceCount := s.capture.traceCount + 1, state := .frozen }, ?_⟩
    constructor
    case eq => exact hp
    case agrees => exact s.agrees_noteFrozen _
    case sight => rfl
    all_goals simp [*]
  next hn =>
    refine ⟨s, { (s.seen v).capture with traceCount := s.capture.traceCount + 1 }, ?_⟩
    constructor
    case eq => exact hp
    case agrees => exact rfl
    case sight => rfl
    all_goals simp [*]

/-- Every presentation is one of the six. -/
theorem present_captured (s : State) (v : Verdict) : ∃ w c, Captured s v w c := by
  by_cases hf : s.fires v
  · exact captured_of_fires hf
  by_cases hq : s.qualifies v
  · exact ⟨_, _, captured_of_counts hq hf⟩
  by_cases ho : s.opens v
  · exact ⟨_, _, captured_of_opens ho hq hf⟩
  by_cases hp : s.capture.state = .post ∧ s.recorded v
  · exact captured_of_posts hp.1 hp.2
  by_cases ht : s.capture.state = .tracing
  · exact captured_of_traces ht
  · exact ⟨_, _, captured_of_still hq hf ho hp ht⟩

/-- The hits, the matches and the recorded entry of a presentation (R167, R168). -/
theorem Captured.sees {w : State} {c : CaptureUnit} (h : Captured s v w c) :
    c.config = s.capture.config ∧ c.hitA = (s.capture.hitA || s.capture.config.a.meets v) ∧
    c.hitB = (s.capture.hitB || s.capture.config.b.meets v) ∧
    c.matchesA = (if s.capture.config.a.meets v then s.capture.matchesA + 1 else s.capture.matchesA) ∧
    c.matchesB = (if s.capture.config.b.meets v then s.capture.matchesB + 1 else s.capture.matchesB) ∧
    (¬s.recorded v → c.buffer = s.capture.buffer ∧ c.recorded = s.capture.recorded) ∧
    (s.recorded v → c.recorded = s.capture.recorded + 1 ∧
      c.buffer = s.capture.buffer.drop (s.capture.buffer.length - 255) ++
        [captureEntry s.quayTime v (s.capture.config.a.meets v) (s.capture.config.b.meets v)]) := by
  rw [h.sight, State.seen, CaptureUnit.see_eq]
  exact ⟨rfl, rfl, rfl, rfl, rfl, fun hr => ⟨if_neg hr, if_neg hr⟩, fun hr => ⟨if_pos hr, if_pos hr⟩⟩

theorem Captured.capture_eq {w : State} {c : CaptureUnit} (h : Captured s v w c) : (present v s).capture = c := by
  rw [h.eq]

/-- Outside the unit, a presentation changes what its notices change. -/
theorem Captured.shows {w : State} {c : CaptureUnit} (h : Captured s v w c) :
    present v s = { s with capture := c, notices := w.notices, store := w.store } := by
  have hw : w = { s with store := w.store, notices := w.notices, capture := w.capture } := h.agrees
  rw [h.eq, hw]

end captured

theorem Matcher.meets_iff (m : Matcher) (v : Verdict) : m.meets v = true ↔
    m.enable = true ∧ m.portMask.getLsbD (portNumber v.port) = true ∧
    (m.direction = none ∨ m.direction = v.direction) ∧ m.meetsRange v.identity = true ∧
    m.kindMask.getLsbD (captureKindCode v.kind) = true ∧
    m.dispositionMask.getLsbD (dispositionCode v.disposition - 1) = true ∧
    (m.craneState = none ∨ m.craneState = v.craneState) := by
  simp only [Matcher.meets, Bool.and_eq_true, Bool.or_eq_true, Option.isNone_iff_eq_none, decide_eq_true_eq, and_assoc]

end Sys2Proof.Machine

section
open Sys2Proof Sys2Proof.Machine

/-- Settles O21: a presentation is taken by the unit and then moves it in one of six ways; each clause is one fact of
the move. -/
theorem framesCaptured : Obligations.FramesCaptured := by
  intro s v u c ok a b recorded qualifies triggers triggered frozen shows
  have hmeets : ∀ m : Matcher, m.meets v = true ↔ ok m := fun m => by
    refine (Matcher.meets_iff m v).trans
      (and_congr_right fun _ => and_congr_right fun _ => and_congr_right fun _ => and_congr_left fun _ => ?_)
    unfold Matcher.meetsRange
    cases v.identity <;> simp
  have hrecorded : s.recorded v ↔ recorded := u.records_iff a b
  obtain ⟨w, c', h⟩ := present_captured s v
  obtain rfl : c = c' := h.capture_eq
  obtain ⟨hconfig, hhitA, hhitB, hmatchesA, hmatchesB, hunrecorded, hentry⟩ := h.sees
  have hshows := h.shows
  rw [hrecorded] at hunrecorded hentry
  have hposted := h.posted
  rw [hrecorded] at hposted
  refine ⟨hmeets _, hmeets _, fun ht hm => ?_, fun ht hm h0 => ?_, fun ht hs hc => ?_, fun ht hs => ?_, hconfig, hhitA,
    hhitB, hmatchesA, hmatchesB, hunrecorded, hentry, h.fired, h.unfired, h.counted, h.waits,
    fun hs hm hb => h.opened ⟨hs, hm, hb⟩, hposted, h.traced,
    fun hs ht hq ho => ⟨h.still hs ht hq ho, h.uncounted hq ho⟩, h.inactive, h.uncounted,
    fun ht hp => h.postKept ht (by rwa [hrecorded]), h.traceKept⟩
  · rw [← show w = triggered from h.noted ht hm]; exact hshows
  · have hset : (s.noteTriggered v).setting 53 = s.setting 53 := s.setting_notify ..
    have hw : w = frozen triggered := (h.notedBoth ht hm h0).trans (by rw [State.noteFrozen, hset]; rfl)
    rw [← hw]; exact hshows
  · rw [← show w = frozen s from h.notedFrozen ht hs hc]; exact hshows
  · rw [← show w = s from h.unnoted ht hs]; exact hshows

end

/-! PROOFS. The Coverage Map's samples and the Notice Unit's judgement and emission (O39, O47, O48). -/

namespace Sys2Proof.Machine

/-! ### Samples (R94 to R102) -/

theorem State.shadowed_iff (s : State) (g : Segment) : s.shadowed g = true ↔
    ∃ l, (s.link l).state ≠ .idle ∧ (s.link l).segment = some g ∧ (s.link l).boom = .down := by
  simp [State.shadowed, allLinks, and_assoc]

theorem offerSample_of_present {g : Segment} {k : Nat} {sample : Byte × Byte} {c : Cell} {s : State}
    (hc : sample.1.toNat = c.val) (hp : (s.cell c).present = true) :
    offerSample g k s sample = takeSample (coverIndex g c) sample.2.toNat k s := by
  simp only [offerSample, cellNamed_eq_some.2 hc, hp, if_true]

theorem offerSample_of_absent {g : Segment} {k : Nat} {sample : Byte × Byte} {s : State}
    (h : ∀ c : Cell, sample.1.toNat = c.val → (s.cell c).present = false) :
    offerSample g k s sample = { s with coverage := { s.coverage with skipped := s.coverage.skipped + 1 } } := by
  cases hc : cellNamed sample.1 with
  | none => simp only [offerSample, hc]
  | some c => simp [offerSample, hc, h c (cellNamed_eq_some.1 hc)]

theorem CoverageMap.countEdge_eq (m : CoverageMap) (before after : CoverState) :
    m.countEdge before after = { m with
      holesSet := if before = .good ∧ after = .hole then bump16 m.holesSet else m.holesSet
      holesCleared := if before = .hole ∧ after = .good then bump16 m.holesCleared else m.holesCleared } := by
  cases before <;> cases after <;> rfl

theorem noticeEdge_eq (i estimate : Nat) (before after : CoverState) (s : State) :
    noticeEdge i estimate before after s =
      if before = .good ∧ after = .hole then s.notify .holeSet i (s.setting 45) (some (BitVec.ofNat 16 estimate))
      else if before = .hole ∧ after = .good then
        s.notify .holeCleared i (s.setting 46) (some (BitVec.ofNat 16 estimate))
      else s := by
  cases before <;> cases after <;> rfl

/-! ### The judgement of a notice (R151 to R155) -/

theorem lowestLevel_le {queue : List Notice} {m : Nat} (h : lowestLevel queue = some m) : ∀ n ∈ queue, m ≤ n.level := by
  induction queue generalizing m with
  | nil => intro n hn; cases hn
  | cons n rest ih =>
    unfold lowestLevel at h
    split at h
    next hnone =>
      injection h with h
      intro r hr
      rcases List.mem_cons.1 hr with rfl | hr
      · omega
      · obtain ⟨k, hk⟩ := lowestLevel_isSome (List.ne_nil_of_mem hr)
        rw [hnone] at hk; cases hk
    next k hk =>
      injection h with h
      intro r hr
      rcases List.mem_cons.1 hr with rfl | hr
      · omega
      · have := ih hk r hr
        omega

theorem lowestLevel_eq {queue : List Notice} {low : Nat} (hmem : ∃ m ∈ queue, m.level = low)
    (hle : ∀ m ∈ queue, low ≤ m.level) : lowestLevel queue = some low := by
  obtain ⟨m, hm, hl⟩ := hmem
  obtain ⟨k, hk⟩ := lowestLevel_isSome (List.ne_nil_of_mem hm)
  obtain ⟨n, hn, hnl⟩ := lowestLevel_mem hk
  have h1 := lowestLevel_le hk m hm
  have h2 := hle n hn
  rw [hk, show k = low by omega]

/-- The newest notice of a level is the last one of it. -/
theorem evictNewest_eq {before after : List Notice} {old : Notice} {low : Nat} (hold : old.level = low)
    (hafter : ∀ m ∈ after, m.level ≠ low) : evictNewest (before ++ old :: after) low = before ++ after := by
  have hskip : ∀ m ∈ after.reverse, ¬(m.level == low) = true := by simpa using hafter
  rw [evictNewest, List.reverse_append, List.reverse_cons, List.append_assoc, List.eraseP_append_right _ hskip,
    List.singleton_append, List.eraseP_cons_of_pos (by simp [hold])]
  simp

/-! ### Emission (R157 to R159) -/

/-- An emission attempt is made: the unit is READY, with notices queued and a destination (R157). -/
abbrev State.emits (s : State) : Prop := s.notices.pacing = none ∧ s.notices.queue ≠ [] ∧ s.setting 52 ≠ 0

/-- The offer of an emission attempt (R158). -/
def State.noticeOffer (s : State) : Admission × State :=
  s.offer .y 1 none .notice (noticeFrame s.identity (BitVec.ofNat 48 (s.setting 52)) s.quayTime (s.notices.counter + 1)
    (withoutSelected s.notices.queue (selectNotices s.notices.queue)).length s.notices.lost
    (selectNotices s.notices.queue))

/-- The state after an emission was admitted, with a pacing (R159). -/
def State.emitted (s : State) (pacing : Option QuayTime) : State := { s with
  store := s.noticeOffer.2.store
  notices := { s.notices with
    queue := withoutSelected s.notices.queue (selectNotices s.notices.queue)
    counter := s.notices.counter + 1, framesSent := s.notices.framesSent + 1
    noticesSent := s.notices.noticesSent + BitVec.ofNat 32 (selectNotices s.notices.queue).length
    pacing := pacing } }

theorem emit_of_idle {s : State} (h : ¬s.emits) (n : Nat) : emit n s = s := by
  cases n with
  | zero => rfl
  | succ n =>
    refine if_pos ?_
    simp only [Bool.or_eq_true, Option.isSome_iff_ne_none, List.isEmpty_iff, decide_eq_true_eq]
    by_contra hc
    exact h ⟨by tauto, by tauto, by tauto⟩

theorem emit_succ_of_ready {s : State} (h : s.emits) (n : Nat) :
    (∀ cause, s.noticeOffer.1 = .refused cause → emit (n + 1) s = { s with
      store := s.noticeOffer.2.store
      notices := { s.notices with
        framesRefused := bump16 s.notices.framesRefused
        pacing := some (later s.quayTime (max 1 (s.setting 51))) } }) ∧
    (s.noticeOffer.1 = .admitted → emit (n + 1) s =
      emit n (s.emitted (if s.setting 51 = 0 then none else some (later s.quayTime (s.setting 51))))) := by
  obtain ⟨hp, hq, hd⟩ := h
  have hgo : ¬(s.notices.pacing.isSome || s.notices.queue.isEmpty || decide (s.setting 52 = 0)) = true := by
    simp [hp, hq, hd]
  refine ⟨fun cause hc => ?_, fun ha => ?_⟩
  · simp only [State.noticeOffer] at hc
    conv_lhs => unfold emit
    rw [if_neg hgo]
    simp only [hc]
    rfl
  · simp only [State.noticeOffer] at ha
    conv_lhs => unfold emit
    rw [if_neg hgo]
    simp only [ha]
    rfl

theorem State.notify_full {s : State} {event : Event} {index level low : Nat} {data : Option (BitVec 16)}
    (h : 0 < level) (hfloor : s.setting 50 < level) (hfull : s.notices.queue.length = 64)
    (hlow : lowestLevel s.notices.queue = some low) :
    s.notify event index level data =
      if low < level then
        ({ s with notices := { s.notices with
          queue := evictNewest s.notices.queue low ++
            [{ event := event, index := index, level := level, time := s.quayTime, data := data }]
          lost := bump16 s.notices.lost } } : State).emitNotices
      else { s with notices := { s.notices with lost := bump16 s.notices.lost } } := by
  rw [State.notify, if_neg (by omega), State.takeNotice]
  simp only [hlow, Option.getD_some]
  rw [if_neg (by omega), if_neg (by omega)]

/-! ### The selection of notices (R158) -/

/-- Every notice of a queue has a level 1 to 7. -/
abbrev levelled (queue : List Notice) : Prop := ∀ n ∈ queue, 1 ≤ n.level ∧ n.level ≤ 7

/-- The queue in the order of emission: highest level first, and within one level oldest first. -/
def byLevel (queue : List Notice) : List Notice :=
  [7, 6, 5, 4, 3, 2, 1].flatMap fun level => queue.filter fun n => n.level == level

theorem selectNotices_eq (queue : List Notice) : selectNotices queue = (byLevel queue).take 16 := rfl

/-- Of some levels, each once, the notices of a level are those of the queue, in its order. -/
theorem filter_flatMap_level (queue : List Notice) (k : Nat) {levels : List Nat} (hd : levels.Nodup) :
    (levels.flatMap fun level => queue.filter fun n => n.level == level).filter (fun n => n.level == k) =
      if k ∈ levels then queue.filter fun n => n.level == k else [] := by
  induction levels with
  | nil => rfl
  | cons j levels ih =>
    obtain ⟨hj, hd⟩ := List.nodup_cons.1 hd
    rw [List.flatMap_cons, List.filter_append, ih hd, List.filter_filter]
    by_cases hk : k = j
    · subst hk
      rw [if_neg hj, if_pos List.mem_cons_self, List.append_nil]
      simp
    · have hnone : (queue.filter fun n => n.level == k && n.level == j) = [] :=
        List.filter_eq_nil_iff.2 fun n _ => by simp; omega
      rw [hnone, List.nil_append]
      simp [hk]

theorem filter_byLevel {queue : List Notice} (h : levelled queue) (k : Nat) :
    (byLevel queue).filter (fun n => n.level == k) = queue.filter fun n => n.level == k := by
  rw [byLevel, filter_flatMap_level queue k (by decide)]
  split
  next => rfl
  next hk =>
    refine (List.filter_eq_nil_iff.2 fun n hn => ?_).symm
    have := h n hn
    simp only [beq_iff_eq]
    rintro rfl
    exact hk (by simp; omega)

theorem byLevel_perm {queue : List Notice} (h : levelled queue) : (byLevel queue).Perm queue := by
  refine List.perm_iff_count.2 fun a => ?_
  have hcount : ∀ l : List Notice, l.count a = (l.filter fun n => n.level == a.level).count a := fun l =>
    (List.count_filter (by simp)).symm
  rw [hcount, hcount queue, filter_byLevel h]

theorem byLevel_pairwise (queue : List Notice) : (byLevel queue).Pairwise fun a b => b.level ≤ a.level := by
  refine List.pairwise_flatMap.2 ⟨fun level _ => ?_, ?_⟩
  · refine List.Pairwise.imp_of_mem (R := fun _ _ => True) (fun {a b} ha hb _ => ?_) (List.pairwise_of_forall (by simp))
    simp only [List.mem_filter, beq_iff_eq] at ha hb
    omega
  · refine List.Pairwise.imp (R := (· > ·)) (fun {i j} hij a ha b hb => ?_) (by decide)
    simp only [List.mem_filter, beq_iff_eq] at ha hb
    omega

section selection
variable {queue : List Notice}

theorem length_selectNotices (h : levelled queue) : (selectNotices queue).length = min 16 queue.length := by
  rw [selectNotices_eq, List.length_take, (byLevel_perm h).length_eq]

/-- The selected notices leave the queue one by one, and the rest stays. -/
theorem selectNotices_append_perm (h : levelled queue) :
    (selectNotices queue ++ withoutSelected queue (selectNotices queue)).Perm queue := by
  rw [withoutSelected, ← List.diff_eq_foldl]
  refine List.subperm_append_diff_self_of_count_le fun n _ => ?_
  rw [← (byLevel_perm h).count_eq n, selectNotices_eq]
  exact (List.take_sublist _ _).count_le _

theorem withoutSelected_perm_drop (h : levelled queue) :
    (withoutSelected queue (selectNotices queue)).Perm ((byLevel queue).drop 16) := by
  have hall : (selectNotices queue ++ withoutSelected queue (selectNotices queue)).Perm
      (selectNotices queue ++ (byLevel queue).drop 16) := by
    rw [selectNotices_eq, List.take_append_drop, ← selectNotices_eq]
    exact (selectNotices_append_perm h).trans (byLevel_perm h).symm
  exact (List.perm_append_left_iff _).1 hall

theorem length_withoutSelected (h : levelled queue) :
    (withoutSelected queue (selectNotices queue)).length = queue.length - min 16 queue.length := by
  have h1 := (selectNotices_append_perm h).length_eq
  rw [List.length_append, length_selectNotices h] at h1
  omega

theorem selectNotices_level_prefix (h : levelled queue) (k : Nat) :
    ((selectNotices queue).filter fun n => n.level == k) <+: (queue.filter fun n => n.level == k) := by
  rw [← filter_byLevel h, selectNotices_eq]
  exact (List.take_prefix _ _).filter _

end selection

/-- As many attempts are bounded by the notices queued as by any larger bound, since each emission takes at least one
notice. -/
theorem emit_of_bound {s : State} (h : levelled s.notices.queue) {n : Nat} (hn : s.notices.queue.length ≤ n) :
    emit n s = s.emitNotices := by
  induction n using Nat.strong_induction_on generalizing s with
  | _ n ih =>
    by_cases hready : s.emits
    · obtain ⟨-, hq, -⟩ := id hready
      obtain ⟨k, hk⟩ := Nat.exists_eq_succ_of_ne_zero (Nat.pos_iff_ne_zero.1 (List.length_pos_iff.2 hq))
      obtain ⟨m, rfl⟩ := Nat.exists_eq_succ_of_ne_zero (by omega : n ≠ 0)
      rw [State.emitNotices, hk]
      cases ho : s.noticeOffer.1 with
      | refused cause => rw [(emit_succ_of_ready hready m).1 cause ho, (emit_succ_of_ready hready k).1 cause ho]
      | admitted =>
        rw [(emit_succ_of_ready hready m).2 ho, (emit_succ_of_ready hready k).2 ho]
        have hrest := length_withoutSelected h
        have hlevelled : levelled (withoutSelected s.notices.queue (selectNotices s.notices.queue)) := fun n hn =>
          h n ((withoutSelected_sublist ..).subset hn)
        have hbound : ∀ j, k ≤ j → j < m + 1 →
            emit j (s.emitted (if s.setting 51 = 0 then none else some (later s.quayTime (s.setting 51)))) =
              (s.emitted (if s.setting 51 = 0 then none else some (later s.quayTime (s.setting 51)))).emitNotices :=
          fun j hj hm => ih j hm hlevelled (by
            show (withoutSelected s.notices.queue (selectNotices s.notices.queue)).length ≤ j
            omega)
        rw [hbound m (by omega) (by omega), hbound k (Nat.le_refl k) (by omega)]
    · rw [State.emitNotices, emit_of_idle hready, emit_of_idle hready]

/-! ### Frames the part composes (R192, R194, R195) -/

/-- A composed frame has its addresses and EtherType, and its content padded with zero bytes. -/
theorem composed_generated (id : Identity) (dst : Address) (etherType : EtherType) (content : List Byte) {n : Nat}
    (h : content.length = n) : composed (generated id dst etherType content) dst id.station etherType n := by
  subst h
  refine ⟨rfl, rfl, rfl, ?_, fun b hb => ?_⟩
  · show (padTo 46 content).length = _
    simp only [padTo, List.length_append, zeros_length]
    omega
  · have hdrop : (padTo 46 content).drop content.length = zeros (46 - content.length) := List.drop_left
    rw [show (generated id dst etherType content).data = padTo 46 content from rfl, hdrop] at hb
    exact List.eq_of_mem_replicate hb

/-- Bytes that begin with the fields of a layout have them at their offsets. -/
theorem fieldsAt_head {data rest : List Byte} {fields : List (Nat × List Byte)}
    (h : data = fields.flatMap Prod.snd ++ rest) (hf : follows 0 fields) : fieldsAt data 0 fields := by
  have := fieldsAt_of_follows (a := []) (start := 0) rest hf rfl
  rwa [List.nil_append, ← h] at this

/-- A composed frame whose content begins with the fields of a layout has them at their offsets. -/
theorem fieldsAt_generated {id : Identity} {dst : Address} {etherType : EtherType} {content more : List Byte}
    {fields : List (Nat × List Byte)} (h : content = fields.flatMap Prod.snd ++ more) (hf : follows 0 fields) :
    fieldsAt (generated id dst etherType content).data 0 fields :=
  fieldsAt_head (rest := more ++ zeros (46 - content.length)) (by rw [← List.append_assoc, ← h]; rfl) hf

section records
variable {α : Type} {put : α → List Byte} {layout : α → List (Nat × List Byte)}

/-- One of some records put one after the other stands where those before it end. -/
theorem fieldsAt_record (hput : ∀ a, put a = (layout a).flatMap Prod.snd) (hf : ∀ a, follows 0 (layout a))
    (header rest : List Byte) (before after : List α) (a : α) {start : Nat}
    (hs : header.length + (before.flatMap put).length = start) :
    fieldsAt (header ++ (before ++ a :: after).flatMap put ++ rest) start (layout a) := by
  have h := fieldsAt_of_follows (start := start) (a := header ++ before.flatMap put)
    (after.flatMap put ++ rest) (hf a) (by rw [List.length_append]; omega)
  simpa [hput a, List.append_assoc] using h

theorem length_flatMap_of_length {n : Nat} (hlen : ∀ a, (put a).length = n) (l : List α) :
    (l.flatMap put).length = n * l.length := by
  induction l with
  | nil => rfl
  | cons a l ih => rw [List.flatMap_cons, List.length_append, hlen, ih, List.length_cons]; ring

/-- The record of a number stands at that many times the size of one. -/
theorem fieldsAt_getElem {n : Nat} (hput : ∀ a, put a = (layout a).flatMap Prod.snd) (hf : ∀ a, follows 0 (layout a))
    (hlen : ∀ a, (put a).length = n) (header rest : List Byte) {l : List α} {k : Nat} {a : α} (h : l[k]? = some a)
    {o : Nat} (ho : header.length = o) :
    fieldsAt (header ++ l.flatMap put ++ rest) (o + n * k) (layout a) := by
  obtain ⟨hk, rfl⟩ := List.getElem?_eq_some_iff.1 h
  have hl : l = l.take k ++ l[k] :: l.drop (k + 1) := by simp
  have hlength : (l.take k).length = k := by rw [List.length_take]; omega
  have hfields := fieldsAt_record hput hf header rest (l.take k) (l.drop (k + 1)) l[k] (start := o + n * k)
    (by rw [length_flatMap_of_length hlen, hlength, ho])
  rwa [← hl] at hfields

end records

/-! ### Notice frames (R194) -/

theorem putNotice_eq (n : Notice) : putNotice n = (noticeLayout n).flatMap Prod.snd := by
  simp [putNotice, noticeLayout, bigEndian_one, bigEndian_two, bigEndian_four, bigEndian_zero, flagBits_eq, bitsOf,
    putFlag]

theorem noticeLayout_follows (n : Notice) : follows 0 (noticeLayout n) := by
  simp [noticeLayout, follows, bigEndian]

theorem putNotice_length (n : Notice) : (putNotice n).length = 18 := by simp [putNotice]

end Sys2Proof.Machine

section
open Sys2Proof Sys2Proof.Machine

/-- Settles O39: the weight is chosen by the shadow, the samples are folded in order, and each sample is one change of
its entry with the notice of its edge. -/
theorem trailersSampled : Obligations.TrailersSampled := by
  intro s
  refine ⟨fun crane cell t => rfl, fun crane g cell => by cases g <;> rfl, fun g cell t => ?_, fun g k sample =>
    ⟨offerSample_of_absent, fun c hc hp => offerSample_of_present hc hp⟩, fun i q k => ?_⟩
  · intro shadowed samples
    have hshadow : s.shadowed g = true ↔ shadowed := s.shadowed_iff g
    refine ⟨fun crane h => if_pos ?_, fun h h0 => (if_neg ?_).trans (if_pos h0), fun h h0 =>
      (if_neg ?_).trans (if_neg h0)⟩
    · rcases h with rfl | h
      · rfl
      · rw [Bool.or_eq_true, Bool.not_eq_true', ← Bool.not_eq_true, hshadow]; exact .inr h
    all_goals simp [hshadow.2 h]
  · intro e estimate count
    let after := judged e.state estimate count (s.setting 41) (s.setting 42) (s.setting 43)
    let d : State := { s with coverage := { s.coverage.countEdge e.state after with
      entries := s.coverage.entries.set i { e.sampled s.quayTime (s.setting 44) q k with state := after }
      taken := s.coverage.taken + 1 } }
    refine ⟨after, d, fun h => ?_, fun h => ?_, fun h => ?_, fun j => ?_, ?_, ?_⟩
    · simp only [after, h, judged]
    · simp only [after, h, judged]
    · simp only [after, h, judged]
    · exact Table.get_set ..
    · simp only [d, CoverageMap.countEdge_eq]
    · exact noticeEdge_eq ..

/-- Settles O47: the floor, the room and the lowest level queued decide. -/
theorem noticesJudged : Obligations.NoticesJudged := by
  intro s event index level data u n lost
  refine ⟨fun h => if_pos h, fun h hfloor => ?_, fun h hfloor hroom => ?_, fun h hfloor hfull low hmem hle =>
    ⟨fun hl => ?_, fun hl before old after hq hold hafter => ?_⟩⟩
  · rw [State.notify, if_neg (by omega), State.takeNotice]
    exact if_pos hfloor
  · rw [State.notify, if_neg (by omega), State.takeNotice]
    exact (if_neg (by simp only; omega)).trans (if_pos hroom)
  · exact (State.notify_full h hfloor hfull (lowestLevel_eq hmem hle)).trans (if_neg (by omega))
  · rw [State.notify_full h hfloor hfull (lowestLevel_eq hmem hle), if_pos hl]
    have hevict : evictNewest s.notices.queue low = before ++ after := by rw [hq, evictNewest_eq hold hafter]
    have hlength : u.queue.length = (before ++ old :: after).length := by rw [hq]
    rw [hevict]
    refine ⟨?_, rfl⟩
    simp only [List.length_append, List.length_cons, List.length_nil] at hlength ⊢
    omega

/-- Settles O48: what an attempt does is read off `emit`; with a gap of 0 it goes on with fewer notices. -/
theorem noticesEmitted : Obligations.NoticesEmitted := by
  intro s u chosen rest gap offered sent ready
  have hexec : exec .pacingDeadlineExpiry s = .next (if due s.quayTime u.pacing then
      ({ s with notices := { u with pacing := none } } : State).emitNotices else s) := rfl
  have hsucc : ready → ∃ n, u.queue.length = n + 1 := fun h => by
    obtain ⟨-, hq, -⟩ := h
    exact Nat.exists_eq_succ_of_ne_zero (Nat.pos_iff_ne_zero.1 (List.length_pos_iff.2 hq))
  refine ⟨fun h => by rw [hexec, due_eq_false h]; rfl, fun d hd h => by rw [hexec, due_of_reached hd h]; rfl,
    fun h => emit_of_idle h _, fun h cause hc => ?_, fun h ha hgap => ?_, fun h => ⟨fun hready ha hgap => ?_, ?_⟩, ?_,
    rfl⟩
  · obtain ⟨n, hn⟩ := hsucc h
    rw [State.emitNotices, show s.notices.queue.length = n + 1 from hn]
    exact (emit_succ_of_ready h n).1 cause hc
  · obtain ⟨n, hn⟩ := hsucc h
    rw [State.emitNotices, show s.notices.queue.length = n + 1 from hn, (emit_succ_of_ready h n).2 ha, if_neg hgap]
    exact emit_of_idle (fun hr => by cases hr.1) n
  · obtain ⟨n, hn⟩ := hsucc hready
    rw [State.emitNotices, show s.notices.queue.length = n + 1 from hn, (emit_succ_of_ready hready n).2 ha, if_pos hgap]
    have hrest : rest.length = u.queue.length - min 16 u.queue.length := length_withoutSelected h
    exact emit_of_bound (fun m hm => h m ((withoutSelected_sublist ..).subset hm)) (by
      show rest.length ≤ n
      omega)
  · refine ⟨length_selectNotices h, selectNotices_append_perm h, withoutSelected_sublist .., ?_, ?_,
      selectNotices_level_prefix h⟩
    · exact (byLevel_pairwise u.queue).sublist (List.take_sublist _ _)
    · intro a ha b hb
      have hpair := byLevel_pairwise u.queue
      rw [← List.take_append_drop 16 (byLevel u.queue), List.pairwise_append] at hpair
      exact hpair.2.2 a ha b ((withoutSelected_perm_drop h).mem_iff.1 hb)
  · intro dst now number remaining lost notices f
    refine ⟨composed_generated _ _ _ _ ?_, fieldsAt_generated (more := notices.flatMap putNotice) ?_ ?_,
      fun k n hn => ?_⟩
    · simp only [List.length_append, put8_length, put16_length, put32_length,
        length_flatMap_of_length putNotice_length]
    · simp only [bigEndian_one, bigEndian_two, bigEndian_four, List.flatMap_cons, List.flatMap_nil, List.append_assoc,
        List.append_nil]
    · simp [follows, bigEndian]
    · exact fieldsAt_getElem putNotice_eq noticeLayout_follows putNotice_length _ _ hn rfl

end

/-! PROOFS. Management commands: a refused command changes nothing, and a command in a request is judged as one by itself
(O51 to O53). The owner of a command does not see the request around it. -/

namespace Sys2Proof.Machine

/-! ### What does not see the executing request -/

section blind
variable (s : State) (x : Option Execution)

@[simp] theorem State.withExecuting_link (l : Link) : (s.withExecuting x).link l = s.link l := rfl

theorem State.withExecuting_setLink (l : Link) (v : CraneLink) :
    (s.withExecuting x).setLink l v = (s.setLink l v).withExecuting x := rfl

theorem State.withExecuting_offer (p : Port) (c : Class) (cell : Option Cell) (o : Origin) (f : Frame) :
    (s.withExecuting x).offer p c cell o f = ((s.offer p c cell o f).1, (s.offer p c cell o f).2.withExecuting x) := rfl

theorem State.withExecuting_emitted (pacing : Option QuayTime) :
    (s.withExecuting x).emitted pacing = (s.emitted pacing).withExecuting x := rfl

theorem emit_withExecuting (n : Nat) : emit n (s.withExecuting x) = (emit n s).withExecuting x := by
  induction n generalizing s with
  | zero => rfl
  | succ n ih =>
    by_cases h : s.emits
    · have h' : (s.withExecuting x).emits := h
      cases ho : s.noticeOffer.1 with
      | refused cause =>
        rw [(emit_succ_of_ready h n).1 cause ho, (emit_succ_of_ready h' n).1 cause ho]
        rfl
      | admitted =>
        rw [(emit_succ_of_ready h n).2 ho, (emit_succ_of_ready h' n).2 ho, State.withExecuting_emitted, ih]
        rfl
    · rw [emit_of_idle h, emit_of_idle (s := s.withExecuting x) h]

theorem State.withExecuting_emitNotices : (s.withExecuting x).emitNotices = s.emitNotices.withExecuting x :=
  emit_withExecuting s x _

theorem State.withExecuting_takeNotice (n : Notice) :
    (s.withExecuting x).takeNotice n = (s.takeNotice n).withExecuting x := by
  have hemit : ∀ u : NoticeUnit, ({ s.withExecuting x with notices := u } : State).emitNotices =
      ({ s with notices := u } : State).emitNotices.withExecuting x := fun u =>
    State.withExecuting_emitNotices { s with notices := u } x
  unfold State.takeNotice
  simp only [apply_ite (fun t : State => t.withExecuting x)]
  exact if_congr Iff.rfl rfl (if_congr Iff.rfl (hemit _) (if_congr Iff.rfl (hemit _) rfl))

theorem State.withExecuting_notify (ev : Event) (i level : Nat) (data : Option (BitVec 16)) :
    (s.withExecuting x).notify ev i level data = (s.notify ev i level data).withExecuting x := by
  unfold State.notify
  split
  · rfl
  · exact s.withExecuting_takeNotice x _

theorem offerOnCells_withExecuting (o : Origin) (f : Frame) (cells : List Cell) :
    offerOnCells o f cells (s.withExecuting x) =
      ((offerOnCells o f cells s).1, (offerOnCells o f cells s).2.withExecuting x) := by
  induction cells generalizing s with
  | nil => rfl
  | cons c rest ih =>
    unfold offerOnCells
    have hpresent : ((s.withExecuting x).cell c).present = (s.cell c).present := rfl
    have hcell : (s.withExecuting x).cell c = s.cell c := rfl
    rw [hcell]
    split
    · simp only [State.withExecuting_offer, ih]
    · exact ih s

theorem holdAttempt_withExecuting (l : Link) :
    holdAttempt l (s.withExecuting x) = (holdAttempt l s).withExecuting x := by
  have htargets : (s.withExecuting x).holdTargets l = s.holdTargets l := rfl
  unfold holdAttempt
  simp only [htargets, offerOnCells_withExecuting]
  split <;> rfl

theorem applyPending_withExecuting (l : Link) :
    applyPending l (s.withExecuting x) = (applyPending l s).withExecuting x := by
  unfold applyPending
  rw [State.withExecuting_link]
  split <;> rfl

theorem State.withExecuting_holdBegun (l : Link) (reason : HoldReason) :
    (s.withExecuting x).holdBegun l reason = (s.holdBegun l reason).withExecuting x := rfl

theorem enterHold_withExecuting (l : Link) (reason : HoldReason) :
    enterHold l reason (s.withExecuting x) = (enterHold l reason s).withExecuting x := by
  rw [enterHold_eq l reason s rfl, enterHold_eq l reason (s.withExecuting x) rfl, State.withExecuting_holdBegun,
    State.withExecuting_link, State.withExecuting_notify, holdAttempt_withExecuting]
  rfl

theorem holdLink_withExecuting (l : Link) : holdLink l (s.withExecuting x) = (holdLink l s).withExecuting x := by
  unfold holdLink
  rw [State.withExecuting_link]
  split
  · rfl
  · rfl
  · rfl
  all_goals exact enterHold_withExecuting s x l .managed

theorem applyCommit_withExecuting (l : Link) :
    applyCommit l (s.withExecuting x) = (applyCommit l s).withExecuting x := by
  rw [applyCommit_eq, applyCommit_eq]
  rfl

theorem commitLink_withExecuting (now : Bool) (l : Link) :
    commitLink now l (s.withExecuting x) = (commitLink now l s).withExecuting x := by
  unfold commitLink
  rw [State.withExecuting_link, applyCommit_withExecuting]
  simp only [apply_ite (fun t : State => t.withExecuting x)]
  rfl

theorem storeSetting_withExecuting (index value : Nat) :
    storeSetting index value (s.withExecuting x) = (storeSetting index value s).withExecuting x := by
  have hemit : ({ s.withExecuting x with settings := s.settings.set index value } : State).emitNotices =
      ({ s with settings := s.settings.set index value } : State).emitNotices.withExecuting x :=
    State.withExecuting_emitNotices { s with settings := s.settings.set index value } x
  unfold storeSetting
  split
  · rfl
  · split
    next h => exact (if_pos h).symm ▸ rfl
    next h => exact (if_neg h).symm ▸ rfl
  · split
    next h => rfl
    next h => exact hemit
  · rfl

theorem coldSettings_withExecuting (first n : Nat) :
    coldSettings first n (s.withExecuting x) = (coldSettings first n s).withExecuting x := by
  induction n generalizing s first with
  | zero => rfl
  | succ n ih =>
    unfold coldSettings
    rw [storeSetting_withExecuting, ih]
    rfl

theorem storeCrane_withExecuting (l : Link) (c : CraneConfig) :
    storeCrane l c (s.withExecuting x) = (storeCrane l c s).withExecuting x := by
  unfold storeCrane enterIdle
  simp only [State.withExecuting_link, State.withExecuting_setLink, applyPending_withExecuting,
    apply_ite (fun t : State => t.withExecuting x)]

end blind

/-! ### Owners (R183) -/

/-- What the judgement and effect of a command keep to: a refusal changes nothing and returns no data, and the request
around the command is neither read nor changed. -/
structure Owner (owner : State → Ruling × State) : Prop where
  refuses : ∀ s, (owner s).1.result ≠ .ok → (owner s).2 = s ∧ (owner s).1.data = []
  blind : ∀ s x, owner (s.withExecuting x) = ((owner s).1, (owner s).2.withExecuting x)

/-- A command that reads. -/
theorem Owner.reading {owner : State → Ruling × State} (r : State → Ruling) (h : ∀ s, owner s = (r s, s))
    (hr : ∀ s, (r s).result ≠ .ok → (r s).data = []) (hb : ∀ s x, r (s.withExecuting x) = r s) : Owner owner where
  refuses s hn := by rw [h] at hn ⊢; exact ⟨rfl, hr s hn⟩
  blind s x := by rw [h, h, hb]

theorem Owner.guarded {code : State → ResultCode} {effect : State → State → State}
    (hc : ∀ s x, code (s.withExecuting x) = code s)
    (he : ∀ s x, effect (s.withExecuting x) (s.withExecuting x) = (effect s s).withExecuting x) :
    Owner fun s => guarded (code s) (effect s) s where
  refuses s hn := by
    unfold Machine.guarded at hn ⊢
    split at hn
    next => exact absurd rfl hn
    next h => rw [if_neg h]; exact ⟨rfl, rfl⟩
  blind s x := by
    simp only [Machine.guarded, hc]
    split
    · rw [he]
    · rfl

theorem Owner.writeEntry {α : Type} {entries index : Nat} {fields : Option α} {test : State → α → ResultCode}
    {store : α → State → State} (ht : ∀ v s x, test (s.withExecuting x) v = test s v)
    (hs : ∀ v s x, store v (s.withExecuting x) = (store v s).withExecuting x) :
    Owner fun s => writeEntry entries index fields (test s) store s := by
  unfold Machine.writeEntry
  split
  · exact .reading _ (fun _ => rfl) (fun _ _ => rfl) fun _ _ => rfl
  · cases fields with
    | none => exact .reading _ (fun _ => rfl) (fun _ _ => rfl) fun _ _ => rfl
    | some v => exact .guarded (code := fun s => test s v) (effect := fun _ => store v) (ht v) (hs v)

theorem Owner.clearEntries {entries first count : Nat} {test : State → ResultCode} {clear : State → State}
    (ht : ∀ s x, test (s.withExecuting x) = test s)
    (hc : ∀ s x, clear (s.withExecuting x) = (clear s).withExecuting x) :
    Owner fun s => clearEntries entries first count (test s) clear s :=
  .guarded (code := fun s => if rangeCode entries first count = .ok then test s else rangeCode entries first count)
    (effect := fun _ => clear) (fun s x => by rw [ht]) hc

theorem Owner.orderLinks (mask : BitVec 16) {act : Link → State → State} {found : State → Link → Bool}
    (ha : ∀ l s x, act l (s.withExecuting x) = (act l s).withExecuting x)
    (hf : ∀ s x l, found (s.withExecuting x) l = found s l) : Owner (orderLinks mask act found) := by
  have hfold : ∀ (links : List Link) s x, links.foldl (fun s l => act l s) (s.withExecuting x) =
      (links.foldl (fun s l => act l s) s).withExecuting x := by
    intro links
    induction links with
    | nil => intro s x; rfl
    | cons l links ih => intro s x; rw [List.foldl_cons, ha, ih]; rfl
  refine ⟨fun s hn => ?_, fun s x => ?_⟩ <;> unfold Machine.orderLinks at *
  · split at hn
    next h => rw [if_pos h]; exact ⟨rfl, rfl⟩
    next h => exact absurd rfl hn
  · split
    · rfl
    · rw [hfold]
      have hmask : found ((List.foldl (fun s l => act l s) s (maskLinks mask)).withExecuting x) =
          found (List.foldl (fun s l => act l s) s (maskLinks mask)) := funext fun l => hf _ _ l
      simp only [hmask]

theorem Owner.writeSetting (index value : Nat) : Owner (writeSetting index value) :=
  .guarded (code := fun s => settingCode s index value) (effect := fun _ => storeSetting index value)
    (fun _ _ => rfl) fun s x => storeSetting_withExecuting s x index value

theorem clearSettingsCode_withExecuting (s : State) (x : Option Execution) (first n : Nat) :
    clearSettingsCode (s.withExecuting x) first n = clearSettingsCode s first n := by
  induction n generalizing first with
  | zero => rfl
  | succ n ih =>
    have hcode : settingCode (s.withExecuting x) first (Settings.coldValue (s.withExecuting x).identity first) =
      settingCode s first (Settings.coldValue s.identity first) := rfl
    unfold clearSettingsCode
    rw [hcode, ih]

theorem Owner.clearSettings (first count : Nat) : Owner (clearSettings first count) :=
  .guarded (code := fun s => if rangeCode 54 first count = .ok then clearSettingsCode s first count
      else rangeCode 54 first count)
    (effect := fun _ => coldSettings first count) (fun s x => by rw [clearSettingsCode_withExecuting])
    fun s x => coldSettings_withExecuting s x first count

/-- A read that is judged by a code and returns data. -/
theorem Owner.judged (code : ResultCode) {data : State → List Byte}
    (hb : ∀ s x, data (s.withExecuting x) = data s) :
    Owner fun s => if code = .ok then (okData (data s), s) else (ruling code, s) := by
  split
  · exact .reading (fun s => okData (data s)) (fun _ => rfl) (fun _ h => absurd rfl h) fun s x => by rw [hb]
  · exact .reading (fun _ => ruling code) (fun _ => rfl) (fun _ _ => rfl) fun _ _ => rfl

theorem entryData_withExecuting (s : State) (x : Option Execution) (table i : Nat) :
    entryData (s.withExecuting x) table i = entryData s table i := by
  unfold entryData
  split <;> rfl

theorem Owner.readTable (table first count : Nat) : Owner (readTable table first count) := by
  unfold Machine.readTable
  split
  · exact .reading (fun _ => ruling .badTable) (fun _ => rfl) (fun _ _ => rfl) fun _ _ => rfl
  · exact .judged _ fun s x => by simp only [entryData_withExecuting]

theorem groupData_withExecuting (s : State) (x : Option Execution) (group first count : Nat) :
    groupData (s.withExecuting x) group first count = groupData s group first count := by
  unfold groupData
  split <;> rfl

theorem Owner.writeBearer (index : Nat) (f : BearerFields) : Owner (writeBearer index f) := by
  by_cases h : index = 0
  · exact .reading (fun _ => ruling .badIndex) (fun s => if_pos h) (fun _ _ => rfl) fun _ _ => rfl
  · have howner : Machine.writeBearer index f = fun s => Machine.writeEntry 4096 index (readBearer f)
        (bearerTest index s) (fun d s => s.setBearer index (d.written s.quayTime)) s := funext fun s => if_neg h
    rw [howner]
    exact .writeEntry (fun _ _ _ => rfl) fun _ _ _ => rfl

theorem Owner.writeCrane (index : Nat) (f : CraneFields) : Owner (writeCrane index f) := by
  by_cases h : index < 16
  · have howner : Machine.writeCrane index f = fun s => Machine.writeEntry 16 index (readCrane f)
        (craneTest ⟨index, h⟩ s) (storeCrane ⟨index, h⟩) s := funext fun s => dif_pos h
    rw [howner]
    exact .writeEntry (fun _ _ _ => rfl) fun c s x => storeCrane_withExecuting s x _ c
  · exact .reading (fun _ => ruling .badIndex) (fun s => dif_neg h) (fun _ _ => rfl) fun _ _ => rfl

theorem Owner.armCapture (f : CaptureFields) : Owner (armCapture f) := by
  unfold Machine.armCapture
  split
  · exact .reading (fun _ => ruling .badValue) (fun _ => rfl) (fun _ _ => rfl) fun _ _ => rfl
  · exact ⟨fun s hn => absurd rfl hn, fun s x => rfl⟩

/-- An owner that accepts. -/
theorem Owner.accepting {owner : State → Ruling × State} (h : ∀ s, (owner s).1.result = .ok)
    (hb : ∀ s x, owner (s.withExecuting x) = ((owner s).1, (owner s).2.withExecuting x)) : Owner owner :=
  ⟨fun s hn => absurd (h s) hn, hb⟩

/-- Every management command but RESTART is run for its owner. -/
theorem exec_management {c : Instr} {code : Byte} (h : managementCode c = some code) (hr : c ≠ .restart) :
    ∃ owner, Owner owner ∧ ∀ s, exec c s = .next (runCommand code (resultSize c) owner s) := by
  cases c <;> cases h
  case restart => exact absurd rfl hr
  case identify => exact ⟨_, .reading _ (fun _ => rfl) (fun _ h => absurd rfl h) fun _ _ => rfl, fun _ => rfl⟩
  case readEntries table first count => exact ⟨_, .readTable _ _ _, fun _ => rfl⟩
  case writeSettings => exact ⟨_, .writeSetting _ _, fun _ => rfl⟩
  case bearerTypeWrite => exact ⟨_, .writeSetting _ _, fun _ => rfl⟩
  case queueLimitWrite => exact ⟨_, .writeSetting _ _, fun _ => rfl⟩
  case noticeFloorWrite => exact ⟨_, .writeSetting _ _, fun _ => rfl⟩
  case summaryIntervalWrite => exact ⟨_, .writeSetting _ _, fun _ => rfl⟩
  case noticeDestinationWrite => exact ⟨_, .writeSetting _ _, fun _ => rfl⟩
  case writeManagers => exact ⟨_, .writeEntry (test := fun _ _ => .ok) (fun _ _ _ => rfl) fun _ _ _ => rfl, fun _ => rfl⟩
  case writeCells => exact ⟨_, .writeEntry (test := fun _ _ => .ok) (fun _ _ _ => rfl) fun _ _ _ => rfl, fun _ => rfl⟩
  case writeGeometry => exact ⟨_, .writeEntry (test := fun _ _ => .ok) (fun _ _ _ => rfl) fun _ _ _ => rfl, fun _ => rfl⟩
  case writeBearers => exact ⟨_, .writeBearer _ _, fun _ => rfl⟩
  case writeCranes => exact ⟨_, .writeCrane _ _, fun _ => rfl⟩
  case writePaths => exact ⟨_, .writeEntry (test := fun _ _ => .ok) (fun _ _ _ => rfl) fun _ _ _ => rfl, fun _ => rfl⟩
  case writeProfiles => exact ⟨_, .writeEntry (test := fun _ _ => .ok) (fun _ _ _ => rfl) fun _ _ _ => rfl, fun _ => rfl⟩
  case writeReefers => exact ⟨_, .writeEntry (test := fun _ _ => .ok) (fun _ _ _ => rfl) fun _ _ _ => rfl, fun _ => rfl⟩
  case writeCoverage =>
    exact ⟨_, .reading (fun _ => ruling .badTable) (fun _ => rfl) (fun _ _ => rfl) fun _ _ => rfl, fun _ => rfl⟩
  case clearSettings => exact ⟨_, .clearSettings _ _, fun _ => rfl⟩
  case clearManagers => exact ⟨_, .clearEntries (test := fun _ => .ok) (fun _ _ => rfl) fun _ _ => rfl, fun _ => rfl⟩
  case clearCells => exact ⟨_, .clearEntries (test := fun _ => .ok) (fun _ _ => rfl) fun _ _ => rfl, fun _ => rfl⟩
  case clearGeometry => exact ⟨_, .clearEntries (test := fun _ => .ok) (fun _ _ => rfl) fun _ _ => rfl, fun _ => rfl⟩
  case clearBearers first count =>
    exact ⟨_, .clearEntries (test := bearerRangeTest first count) (fun _ _ => rfl) fun _ _ => rfl, fun _ => rfl⟩
  case clearCranes first count =>
    exact ⟨_, .clearEntries (test := fun s => if s.workingRange first count then .busy else .ok) (fun _ _ => rfl)
      fun _ _ => rfl, fun _ => rfl⟩
  case clearPaths => exact ⟨_, .clearEntries (test := fun _ => .ok) (fun _ _ => rfl) fun _ _ => rfl, fun _ => rfl⟩
  case clearProfiles => exact ⟨_, .clearEntries (test := fun _ => .ok) (fun _ _ => rfl) fun _ _ => rfl, fun _ => rfl⟩
  case clearReefers => exact ⟨_, .clearEntries (test := fun _ => .ok) (fun _ _ => rfl) fun _ _ => rfl, fun _ => rfl⟩
  case clearCoverage => exact ⟨_, .clearEntries (test := fun _ => .ok) (fun _ _ => rfl) fun _ _ => rfl, fun _ => rfl⟩
  case commitPaths mask now =>
    exact ⟨_, .orderLinks mask (fun l s x => commitLink_withExecuting s x now l) fun _ _ _ => rfl, fun _ => rfl⟩
  case craneHold mask =>
    exact ⟨_, .orderLinks mask (fun l s x => holdLink_withExecuting s x l) fun _ _ _ => rfl, fun _ => rfl⟩
  case statisticsRead group first count =>
    exact ⟨_, .judged _ fun s x => groupData_withExecuting s x _ _ _, fun _ => rfl⟩
  case statisticsClear => exact ⟨_, .accepting (fun _ => rfl) fun _ _ => rfl, fun _ => rfl⟩
  case captureArm => exact ⟨_, .armCapture _, fun _ => rfl⟩
  case captureStop => exact ⟨_, .accepting (fun _ => rfl) fun _ _ => rfl, fun _ => rfl⟩
  case captureRead offset count => exact ⟨_, .judged _ fun _ _ => rfl, fun _ => rfl⟩
  case captureClearHits => exact ⟨_, .accepting (fun _ => rfl) fun _ _ => rfl, fun _ => rfl⟩
  case badCommand w => exact ⟨_, .reading _ (fun _ => rfl) (fun _ _ => rfl) fun _ _ => rfl, fun _ => rfl⟩

section
variable {s : State} {e : Execution} {size : Nat}

theorem runCommand_runs (he : s.endpoint.executing = some e) (h : e.cannotRun size = false) (code : Byte)
    (owner : State → Ruling × State) :
    runCommand code size owner s = settle e ((owner s).1.answer code) (owner s).2 := by
  unfold runCommand
  simp only [he, h]
  rfl

theorem runCommand_notRun (he : s.endpoint.executing = some e) (h : e.cannotRun size = true) (code : Byte)
    (owner : State → Ruling × State) : runCommand code size owner s = settle e ((ruling .notRun).answer code) s := by
  unfold runCommand
  simp only [he, h]
  rfl

end

/-- The result shown is shown anew. -/
theorem settle_congr {e : Execution} {a : Answer} {s t : State} (h : showAnswer a s = showAnswer a t) :
    settle e a s = settle e a t := by
  unfold settle
  simp only [h]

/-- The reply offered decides which counter rises (R185). -/
theorem endRequest_eq (origin : Origin) (e : Execution) (s : State) {a : Admission × State}
    (h : s.offer .y 1 none origin (replyFrame s.identity e.request e.results) = a) :
    (a.1 = .admitted → endRequest origin e s = { a.2 with endpoint := { a.2.endpoint with
      executing := none, executed := a.2.endpoint.executed + 1 } }) ∧
    ∀ cause, a.1 = .refused cause → endRequest origin e s = { a.2 with endpoint := { a.2.endpoint with
      executing := none, repliesLost := bump16 a.2.endpoint.repliesLost } } := by
  unfold endRequest
  rw [h]
  exact ⟨fun ho => by simp only [ho], fun cause ho => by simp only [ho]⟩

/-! ### The warm restart and the endpoint (R190) -/

/-- One state is another but for the Frame Store, the crane links and the active path entries. -/
def State.CraneActs (s t : State) : Prop :=
  t = { s with store := t.store, links := t.links, paths := { s.paths with active := t.paths.active } }

namespace State.CraneActs
variable {s t u : State}

theorem trans (h : s.CraneActs t) (k : t.CraneActs u) : s.CraneActs u := by
  unfold State.CraneActs at *
  rw [k, h]

theorem setLink (s : State) (l : Link) (k : CraneLink) : s.CraneActs (s.setLink l k) := rfl

theorem applyPending (l : Link) (s : State) : s.CraneActs (applyPending l s) := by
  unfold Machine.applyPending
  split
  · rfl
  · rfl

theorem holdAttempt (l : Link) (s : State) : s.CraneActs (holdAttempt l s) := by
  obtain ⟨st, k, h⟩ := holdAttempt_frame l s
  rw [h]
  rfl

theorem restartLink (l : Link) (s : State) : s.CraneActs (restartLink l s) := by
  unfold Machine.restartLink
  split
  · rfl
  any_goals exact (applyPending l s).trans (setLink ..)
  all_goals exact setLink ..

theorem restartHold (l : Link) (s : State) : s.CraneActs (restartHold l s) := by
  unfold Machine.restartHold
  split
  · exact (holdAttempt l s).trans (setLink ..)
  · rfl

theorem foldl {f : State → Link → State} (h : ∀ (s : State) l, s.CraneActs (f s l)) (links : List Link) (s : State) :
    s.CraneActs (links.foldl f s) := by
  induction links generalizing s with
  | nil => rfl
  | cons l links ih => exact (h s l).trans (ih _)

/-- Once the blocks have passed to their warm values, the links alone are left. -/
theorem warmRestart (s : State) : (restartBlocks s).CraneActs (warmRestart s) :=
  (foldl (fun s l => restartLink l s) _ _).trans (foldl (fun s l => restartHold l s) _ _)

end State.CraneActs

theorem warmRestart_endpoint (s : State) :
    (warmRestart s).endpoint = { s.endpoint with requests := [], executing := none } := by
  rw [State.CraneActs.warmRestart s]
  rfl

/-! ### Replies (R185, R196) -/

theorem putResult_eq (a : Answer) : putResult a = (resultLayout a).flatMap Prod.snd := by
  simp [putResult, resultLayout, bigEndian_one, bigEndian_four, bigEndian_zero, put8]

theorem resultLayout_follows (a : Answer) : follows 0 (resultLayout a) := by
  simp [resultLayout, follows, bigEndian]

theorem putResult_length (a : Answer) : (putResult a).length = 8 := by simp [putResult]

theorem replyFrame_data (id : Identity) (q : Request) (parts : List Answer) : ∃ n, (replyFrame id q parts).data =
    [(0, bigEndian 1 2), (1, bigEndian 1 0), (2, bigEndian 2 q.tag.toNat), (4, bigEndian 1 parts.length),
      (5, bigEndian 3 0)].flatMap Prod.snd ++ parts.flatMap putResult ++ (parts.flatMap (·.data) ++ zeros n) := by
  refine ⟨46 - (put8 2 ++ put8 0 ++ put16 q.tag.toNat ++ put8 parts.length ++ zeros 3 ++ parts.flatMap putResult ++
    parts.flatMap (·.data)).length, ?_⟩
  simp only [bigEndian_one, bigEndian_two, bigEndian_zero, List.flatMap_cons, List.flatMap_nil, List.append_nil,
    ← List.append_assoc]
  rfl

end Sys2Proof.Machine

section
open Sys2Proof Sys2Proof.Machine

/-- Settles O51: by itself a command shows what its owner answers, and an owner that refuses changes nothing. -/
theorem refusedCommandsChangeNothing : Obligations.RefusedCommandsChangeNothing := by
  intro c code s hc h
  by_cases hr : c = .restart
  · subst hr
    cases hc
    have hrun : exec .restart s = .next (warmRestart (showAnswer ((ruling .ok).answer restartCode) s)) := by
      show execRestart s = _
      unfold execRestart orderRestart
      simp only [show s.endpoint.executing = none from h]
    refine ⟨_, (ruling .ok).answer restartCode, hrun, ?_, rfl, ?_, fun hn => absurd rfl hn⟩
    · rw [warmRestart_endpoint]
      rfl
    · show (warmRestart _).endpoint.executing = none
      rw [warmRestart_endpoint]
  · obtain ⟨owner, ho, hrun⟩ := exec_management hc hr
    refine ⟨_, (owner s).1.answer code, (hrun s).trans (congrArg _ (runCommand_alone h code _ owner)), rfl, rfl, ?_,
      fun hn => ?_⟩
    · have hblind := ho.blind s none
      rw [show s.withExecuting none = s from (by rw [State.withExecuting, ← h])] at hblind
      show (owner s).2.endpoint.executing = none
      rw [show (owner s).2 = (owner s).2.withExecuting none from congrArg Prod.snd hblind]
      rfl
    · obtain ⟨hstate, hdata⟩ := ho.refuses s hn
      exact ⟨by rw [hstate], hdata⟩

/-- Settles O52: the owner does not see the request around the command. -/
theorem commandsInARequest : Obligations.CommandsInARequest := by
  intro c code s t e a hc hr he hcan ht ha
  obtain ⟨owner, ho, hrun⟩ := exec_management hc hr
  have halone : t = showAnswer ((owner s).1.answer code) ((owner s).2.withExecuting none) := by
    have h := (hrun (s.withExecuting none)).symm.trans ht
    rw [runCommand_alone rfl code _ owner, ho.blind] at h
    exact (Host.Outcome.next.inj h).symm
  have hown : (owner s).2 = (owner s).2.withExecuting (some e) := by
    have hblind := ho.blind s (some e)
    rw [show s.withExecuting (some e) = s from (by rw [State.withExecuting, ← he])] at hblind
    exact congrArg Prod.snd hblind
  have hanswer : a = (owner s).1.answer code := by
    rw [halone] at ha
    exact (Option.some.inj ha).symm
  rw [hrun s, runCommand_runs he hcan, hanswer, halone]
  refine congrArg _ (settle_congr ?_)
  rw [hown]
  rfl

/-- Settles O53: NOT_RUN is the first test of a command, and the last result ends the request. -/
theorem requestsEnd : Obligations.RequestsEnd := by
  refine ⟨fun c code s e hc he hstop => ?_, fun s e a => ⟨fun h => ?_, fun h => ⟨fun ho => ?_, fun cause ho => ?_⟩,
    fun q parts => ?_, rfl⟩⟩
  · have hcan : e.cannotRun (resultSize c) = true := by
      rw [Execution.cannotRun, Bool.or_eq_true, decide_eq_true_iff]
      exact hstop
    by_cases hr : c = .restart
    · subst hr
      cases hc
      show execRestart s = _
      unfold execRestart
      simp only [he]
      exact congrArg _ (if_pos hcan)
    · obtain ⟨owner, -, hrun⟩ := exec_management hc hr
      rw [hrun s, runCommand_notRun he hcan]
      rfl
  · exact if_neg (Nat.not_le.2 h)
  · exact (if_pos h).trans ((endRequest_eq .reply (e.push a) (showAnswer a s) rfl).1 ho)
  · exact (if_pos h).trans ((endRequest_eq .reply (e.push a) (showAnswer a s) rfl).2 cause ho)
  · intro f data
    obtain ⟨n, hdata⟩ := replyFrame_data s.identity q parts
    refine ⟨composed_generated _ _ _ _ ?_, fun field hfield => ?_, fun k a hk => ?_⟩
    · simp only [List.length_append, put8_length, put16_length, zeros_length,
        length_flatMap_of_length putResult_length, data]
    · rcases (List.mem_append (s := [(0, bigEndian 1 2), (1, bigEndian 1 0), (2, bigEndian 2 q.tag.toNat),
        (4, bigEndian 1 parts.length), (5, bigEndian 3 0)])).1 hfield with hhead | htail
      · exact fieldsAt_head (hdata.trans (List.append_assoc ..)) (by simp [follows, bigEndian]) field hhead
      · have h := fieldsAt_of_follows (fields := [(8 + 8 * parts.length, data)]) (start := 0) (zeros n) ⟨rfl, trivial⟩
          (a := [(0, bigEndian 1 2), (1, bigEndian 1 0), (2, bigEndian 2 q.tag.toNat), (4, bigEndian 1 parts.length),
            (5, bigEndian 3 0)].flatMap Prod.snd ++ parts.flatMap putResult)
          (by
            simp only [List.length_append, length_flatMap_of_length putResult_length]
            simp [bigEndian])
        rw [List.flatMap_singleton] at h
        rw [hdata]
        exact h field htail
    · rw [hdata]
      exact fieldsAt_getElem putResult_eq resultLayout_follows putResult_length _ _ hk rfl

end

/-! PROOFS. The crane link supervisor: tokens, expiries, hold order attempts, screening and accepted frames (O27 to
O31). -/

namespace Sys2Proof.Machine

/-! ### Expiries (R53, R55, R60, R67, R89) -/

section
variable {s : State} {l : Link} {dir : Direction}

theorem exec_deadlineExpiry_idle (h : ∀ d, (s.link l).deadline dir = some d → reached s.quayTime d = false) :
    exec (.deadlineExpiry l dir) s = .next s := by
  show execDeadlineExpiry l dir s = _
  unfold execDeadlineExpiry
  cases hd : (s.link l).deadline dir with
  | none => rfl
  | some d => exact congrArg _ (if_neg (by rw [h d hd]; exact Bool.false_ne_true))

theorem exec_deadlineExpiry_reached {d : QuayTime} (hd : (s.link l).deadline dir = some d)
    (h : reached s.quayTime d = true) : exec (.deadlineExpiry l dir) s = .next (expireDeadline l dir d s) := by
  show execDeadlineExpiry l dir s = _
  unfold execDeadlineExpiry
  simp only [hd, h, if_true]

theorem expireDeadline_working (h : (s.link l).isWorking) (d : QuayTime) :
    expireDeadline l dir d s = missDeadline l dir d s := by
  unfold expireDeadline
  rcases h with h | h <;> simp only [h]

/-- The link with one more miss of a direction (R55). -/
def CraneLink.missedAt (k : CraneLink) (dir : Direction) (next : QuayTime) : CraneLink :=
  { k.expired (some next) dir with missed := k.missed + 1, streak := 0 }

/-- A miss: at the threshold the link enters HOLD, below it a LIVE link becomes DEGRADED (R55). -/
theorem missDeadline_eq (l : Link) (dir : Direction) (d : QuayTime) (s : State) {m : CraneLink}
    (hm : m = (s.link l).missedAt dir (later d (s.link l).config.period)) : missDeadline l dir d s =
    if (s.link l).config.threshold ≤ (s.link l).missed + 1 then enterHold l .deadline (s.setLink l m)
    else if (s.link l).state = .live then (s.setLink l { m with state := .degraded }).notify .degraded l.val
      (s.link l).config.degradedLevel (segmentWord (s.link l).segment)
    else s.setLink l m := by
  subst hm
  unfold missDeadline
  simp only [State.setLink_setLink]
  cases dir <;> rfl

end

/-! ### Hold orders (R63 to R66) -/

/-- The planned cells in service, each cell once. -/
theorem State.plannedUp_eq (s : State) (e : PathEntry) {f : Option Cell → List Cell}
    (hf : ∀ c, f c = (c.filter s.cellUp).toList) :
    s.plannedUp e = if e.primary = e.alternate then f e.primary else f e.primary ++ f e.alternate := by
  rw [hf, hf, State.plannedUp]
  split
  next h =>
    rw [← h]
    have hnone : cellsBeyond (e.primary.filter s.cellUp).toList (e.primary.filter s.cellUp).toList = [] := by
      rw [cellsBeyond, List.filter_eq_nil_iff]
      intro c hc
      simpa using hc
    rw [hnone, List.append_nil]
  next h =>
    have hall : cellsBeyond (e.alternate.filter s.cellUp).toList (e.primary.filter s.cellUp).toList =
        (e.alternate.filter s.cellUp).toList := by
      rw [cellsBeyond, List.filter_eq_self]
      intro c hc
      rw [Option.mem_toList, Option.filter_eq_some_iff] at hc
      simp only [Bool.not_eq_true', List.contains_eq_mem, decide_eq_false_iff_not, Option.mem_toList,
        Option.filter_eq_some_iff, not_and]
      intro hp
      exact absurd (hp.trans hc.1.symm) h
    rw [hall]

/-- What an attempt does is decided by its targets and the answers to its offers. -/
theorem holdAttempt_eq (l : Link) (s : State) {offered : List Admission × State}
    (ho : offered = offerOnCells .holdOrder (holdOrder s.identity s.bearerType s.quayTime (s.link l)
      (s.link l).holdSequence ((s.link l).holdCounter + 1)) (s.holdTargets l) s) :
    holdAttempt l s = if s.holdTargets l = [] then s.setLink l (s.link l).defer
      else offered.2.setLink l (if .admitted ∈ offered.1 then (s.link l).ordered else (s.link l).defer) := by
  subst ho
  unfold holdAttempt
  simp only [List.isEmpty_iff, List.contains_iff_mem]

/-! ### Accepted frames (R51 to R61) -/

theorem screen_of_accepted {last : Option Sequence} {q : Sequence} {gap : Nat} (h : sequenceAccepted last q gap) :
    screen last q = .accepted gap := by
  rcases h with ⟨rfl, rfl⟩ | ⟨b, rfl, h1, h2, rfl⟩
  · rfl
  · exact (if_neg (by unfold ahead; omega)).trans (if_neg (by unfold ahead; omega))

section
variable {k : CraneLink}

/-- A link that becomes LIVE by a frame (R54). -/
def CraneLink.revived (k : CraneLink) : CraneLink := { k with state := .live, missed := 0, streak := 0 }

theorem CraneLink.accepted_of_first (h : k.state = .arming) (hn : k.upSeq = none ∨ k.downSeq = none) (now : QuayTime)
    (dir : Direction) : k.accepted now dir = k.reloaded now dir := by
  unfold CraneLink.accepted
  simp only [h]
  refine if_neg ?_
  cases dir <;> rcases hn with hn | hn <;> simp [CraneLink.reloaded, hn]

theorem CraneLink.accepted_of_both (h : k.state = .arming) (hu : k.upSeq ≠ none) (hd : k.downSeq ≠ none)
    (now : QuayTime) (dir : Direction) : k.accepted now dir = (k.reloaded now dir).revived := by
  unfold CraneLink.accepted
  simp only [h]
  refine if_pos ?_
  cases dir <;> simp [CraneLink.reloaded, Option.isSome_iff_ne_none, hu, hd]

theorem CraneLink.accepted_of_live (h : k.state = .live) (now : QuayTime) (dir : Direction) :
    k.accepted now dir = k.reloaded now dir := by
  unfold CraneLink.accepted
  simp only [h]

theorem CraneLink.accepted_of_recovered (h : k.state = .degraded) (hr : k.config.recovery ≤ k.streak + 1)
    (now : QuayTime) (dir : Direction) : k.accepted now dir = (k.reloaded now dir).revived := by
  unfold CraneLink.accepted
  simp only [h]
  cases dir <;> exact if_pos hr

theorem CraneLink.accepted_of_streak (h : k.state = .degraded) (hr : ¬k.config.recovery ≤ k.streak + 1)
    (now : QuayTime) (dir : Direction) :
    k.accepted now dir = { k.reloaded now dir with streak := k.streak + 1 } := by
  unfold CraneLink.accepted
  simp only [h]
  cases dir <;> exact if_neg hr

theorem CraneLink.accepted_of_held (h : k.isHeld) (now : QuayTime) : k.accepted now .up = k.reloaded now .up := by
  unfold CraneLink.accepted
  rcases h with h | h <;> simp only [h]

end

section
variable {s : State} {l : Link} {r : Passed} {gap : Nat}

/-- A frame of the link's own bearer is screened when the link is supervised (R51). -/
theorem handOn_supervised (ht : r.treatment = .crane l) (hi : (s.link l).state ≠ .idle)
    (hb : r.header.bearer = (s.link l).config.bearer) : handOn r s = supervise l r s := by
  unfold handOn takeCraneFrame
  simp only [ht, hi, hb, if_false, decide_true, Bool.not_true]
  rfl

/-- An accepted uplink frame (R57): sequence, deadline, segment and boom, a pending commit, the trailer, the yard
port. -/
theorem supervise_up (hd : r.direction = .up) (hq : sequenceAccepted (s.link l).upSeq r.header.sequence gap)
    {segment : Option Segment} (hg : s.segmentOf (readControl r.payload).bay = segment) {after : CraneLink}
    (ha : after = { ((s.link l).tookSeq .up r.header.sequence gap).accepted s.quayTime .up with
      segment := segment, boom := (readControl r.payload).boom }) :
    supervise l r s = sentUp r (some (s.link l).state)
      (offerTrailer true segment r.header.cell r.trailer (applyPending l (s.setLink l after))) := by
  subst hg ha
  unfold supervise
  simp only [hd, CraneLink.lastSeq, screen_of_accepted hq]
  unfold acceptUp
  simp only [State.link_setLink, if_true, State.setLink_setLink, State.setLink_quayTime]
  rfl

/-- An accepted downlink frame of a link that is not held (R56). -/
theorem supervise_down (hd : r.direction = .down) (hq : sequenceAccepted (s.link l).downSeq r.header.sequence gap)
    (hh : ¬(s.link l).isHeld) {after : CraneLink}
    (ha : after = { ((s.link l).tookSeq .down r.header.sequence gap).accepted s.quayTime .down with
      lastSent := some r.header.sequence }) :
    supervise l r s = resolveAndSend l r (some (s.link l).state) (s.setLink l after) := by
  subst ha
  unfold supervise
  simp only [hd, CraneLink.lastSeq, screen_of_accepted hq]
  refine (if_neg hh).trans ?_
  unfold acceptDown
  simp only [State.link_setLink, if_true, State.setLink_setLink, State.setLink_quayTime]

/-- An accepted downlink frame of a held link is read for its token alone (R61). -/
theorem supervise_held (hd : r.direction = .down) (hq : sequenceAccepted (s.link l).downSeq r.header.sequence gap)
    (hh : (s.link l).isHeld) :
    supervise l r s = acceptHeld l r (s.link l).state
      (s.setLink l ((s.link l).tookSeq .down r.header.sequence gap)) := by
  unfold supervise
  simp only [hd, CraneLink.lastSeq, screen_of_accepted hq]
  exact if_pos hh

end

end Sys2Proof.Machine

section
open Sys2Proof Sys2Proof.Machine

/-- Settles O29: a held link reads its two tokens, and counts any other. -/
theorem releaseTokens : Obligations.ReleaseTokens := by
  intro s l token k open' ignored reload
  refine ⟨fun hs => ⟨fun ht ha => ?_, fun h => ?_⟩, fun hs =>
    ⟨fun ht => ?_, fun hn ht => ?_, fun hn hn' => ?_⟩⟩ <;> unfold readToken
  · rw [if_neg (by rw [show (s.link l).state = .hold from hs]; decide)]
    exact if_pos (by rw [Bool.and_eq_true]; exact ⟨decide_eq_true ht, ha⟩)
  · rw [if_neg (by rw [show (s.link l).state = .hold from hs]; decide)]
    refine if_neg fun hc => ?_
    obtain ⟨ht, ha⟩ := (Bool.and_eq_true _ _).mp hc
    rcases h with h | h
    · exact h (of_decide_eq_true ht)
    · exact Bool.false_ne_true (h.symm.trans ha)
  · exact (if_pos hs).trans (if_pos ht)
  · exact (if_pos hs).trans ((if_neg hn).trans (if_pos ht))
  · exact (if_pos hs).trans ((if_neg hn).trans (if_neg hn'))

/-- Settles O30: the state and the direction decide what an expiry does. -/
theorem linkExpiries : Obligations.LinkExpiries := by
  intro s l k
  refine ⟨fun dir h => exec_deadlineExpiry_idle h, fun dir d hd h => ?_, fun h => ?_, fun d hd h => ?_,
    fun h => ?_, fun d hd h => ?_⟩
  · intro next rearmed unarmed missed
    have hexec := exec_deadlineExpiry_reached hd h
    have hmissed : missed = (s.link l).missedAt dir (later d (s.link l).config.period) := by cases dir <;> rfl
    rw [hexec]
    refine ⟨fun hs => ?_, fun hs hle => ?_, fun hlt => ⟨fun hs => ?_, fun hs => ?_⟩, fun hs hdir => ?_,
      fun hs hdir => ?_, fun hs => ?_⟩
    · unfold expireDeadline
      cases dir <;> simp only [show (s.link l).state = .arming from hs] <;> rfl
    · rw [expireDeadline_working hs, missDeadline_eq l dir d s hmissed]
      exact congrArg _ (if_pos hle)
    · rw [expireDeadline_working (.inr hs), missDeadline_eq l dir d s hmissed]
      refine congrArg _ ((if_neg (Nat.not_le.2 hlt)).trans (if_neg ?_))
      rw [show (s.link l).state = .degraded from hs]
      decide
    · rw [expireDeadline_working (.inl hs), missDeadline_eq l dir d s hmissed]
      exact congrArg _ ((if_neg (Nat.not_le.2 hlt)).trans (if_pos hs))
    · subst hdir
      unfold expireDeadline
      simp only [show (s.link l).state = .hold from hs]
      rfl
    · subst hdir
      unfold expireDeadline
      simp only [show (s.link l).state = .releasing from hs]
      rfl
    · unfold expireDeadline
      rcases hs with hs | ⟨hs | hs, hdir⟩
      · cases dir <;> simp only [show (s.link l).state = .idle from hs] <;> rfl
      · subst hdir
        simp only [show (s.link l).state = .hold from hs]
        rfl
      · subst hdir
        simp only [show (s.link l).state = .releasing from hs]
        rfl
  · show execReleaseExpiry l s = _
    rw [execReleaseExpiry, due_eq_false h]
    rfl
  · show execReleaseExpiry l s = _
    rw [execReleaseExpiry, due_of_reached hd h, if_pos rfl, ← apply_ite (s.setLink l)]
    rfl
  · show execOverlapExpiry l s = _
    rw [execOverlapExpiry, due_eq_false h]
    rfl
  · show execOverlapExpiry l s = _
    rw [execOverlapExpiry, due_of_reached hd h]
    rfl

/-- Settles O31: the planned cells in service, or else the resolved ones, are the targets. -/
theorem holdOrderAttempts : Obligations.HoldOrderAttempts := by
  intro s l k inService planned targets number order offered deferred
  have hservice : ∀ c, inService c = (c.filter s.cellUp).toList := by
    intro c
    cases c with
    | none => rfl
    | some c =>
      show (if s.cellUp c then [c] else []) = _
      rw [Option.filter_some]
      split <;> rfl
  have htargets : s.holdTargets l = targets := by
    unfold State.holdTargets
    simp only [List.isEmpty_iff, targets, planned, k]
    cases hg : (s.link l).segment with
    | none => rfl
    | some g =>
      simp only [s.plannedUp_eq (s.pathEntry l g) hservice]
      rfl
  have hattempt : holdAttempt l s = if targets = [] then s.setLink l deferred
      else offered.2.setLink l (if .admitted ∈ offered.1 then k.ordered else deferred) := by
    refine (holdAttempt_eq l s (offered := offered) ?_).trans ?_
    · rw [htargets]
      rfl
    · rw [htargets]
      rfl
  refine ⟨fun h => ?_, fun d hd h => ?_, fun h => ?_, fun h hnone => ?_, fun h ha => ?_, fun o f c rest => ?_⟩
  · show execHoldOrderTimeExpiry l s = _
    unfold execHoldOrderTimeExpiry
    cases hd : (s.link l).nextHold with
    | none => rfl
    | some d => exact congrArg _ (if_neg (by rw [h d hd]; exact Bool.false_ne_true))
  · show execHoldOrderTimeExpiry l s = _
    unfold execHoldOrderTimeExpiry
    simp only [show (s.link l).nextHold = some d from hd]
    exact congrArg _ (if_pos h)
  · rw [hattempt, if_pos h]
  · rw [hattempt, if_neg h, if_neg fun ha => hnone _ ha rfl]
  · rw [hattempt, if_neg h, if_pos ha]
    rfl
  · rfl

/-- Settles O27: an IDLE link passes the frame on, a supervised one screens bearer and sequence. -/
theorem craneFramesScreened : Obligations.CraneFramesScreened := by
  intro s r l ht k
  have hand : handOn r s = takeCraneFrame l r s := by
    unfold handOn
    simp only [ht]
  refine ⟨fun hs => ⟨fun hd => ?_, fun hd => ?_⟩, fun hs hb => ?_, fun hs hb b hl => ?_⟩
  · rw [hand, takeCraneFrame, if_pos hs]
    simp only [hd]
    rfl
  · have hdown : handOn r s = forwardDown r (some .idle) (.control (r.result (some .idle))) s := by
      rw [hand, takeCraneFrame, if_pos hs]
      simp only [hd]
    rw [hdown]
    exact forwardDown_cases ..
  · rw [hand, takeCraneFrame, if_neg hs]
    exact if_pos (by rw [Bool.not_eq_true', decide_eq_false_iff_not]; exact hb)
  · rw [handOn_supervised ht hs hb]
    unfold supervise
    refine ⟨fun hq => ?_, fun hq => ?_⟩
    · have hscreen : screen ((s.link l).lastSeq r.direction) r.header.sequence = .duplicate := by
        rw [show (s.link l).lastSeq r.direction = some b from hl, hq]
        exact if_pos (by simp [ahead])
      simp only [hscreen]
      rfl
    · have hscreen : screen ((s.link l).lastSeq r.direction) r.header.sequence = .late := by
        rw [show (s.link l).lastSeq r.direction = some b from hl]
        exact (if_neg (by unfold ahead; omega)).trans (if_pos hq)
      simp only [hscreen]
      rfl

/-- Settles O28: the direction, and whether the link is held, decide what an accepted frame does; the state then says
where the link moves. -/
theorem acceptedFrames : Obligations.AcceptedFrames := by
  intro s r l gap ht k q record reload counts moved hi hb hq
  have hfirst : ∀ o j, k.state = .arming → o = none → moved o j = j := fun o j hs ho => by
    simp only [moved, hs]
    exact if_pos ho
  have hboth : ∀ o j, k.state = .arming → ¬o = none → moved o j = j.revived := fun o j hs ho => by
    simp only [moved, hs]
    exact if_neg ho
  have hrecovered : ∀ o j, k.state = .degraded → k.config.recovery ≤ k.streak + 1 → moved o j = j.revived :=
    fun o j hs hr => by
      simp only [moved, hs]
      exact if_pos hr
  have hstreak : ∀ o j, k.state = .degraded → ¬k.config.recovery ≤ k.streak + 1 →
      moved o j = { j with streak := k.streak + 1 } := fun o j hs hr => by
    simp only [moved, hs]
    exact if_neg hr
  have hstays : ∀ o j, k.state = .live ∨ k.isHeld → moved o j = j := fun o j hs => by
    rcases hs with hs | hs | hs <;> simp only [moved, hs]
  rw [handOn_supervised ht hi hb]
  refine ⟨fun hd => ?_, fun hd hh => ?_, fun hd hh => ?_⟩ <;> rw [hd] at hq
  · intro segment after
    let j := k.tookSeq .up q gap
    let stand := fun j : CraneLink => { j with segment := segment, boom := record.boom }
    refine supervise_up hd hq rfl (show after = stand (j.accepted s.quayTime .up) from ?_)
    cases hs : k.state with
    | idle => exact absurd hs hi
    | arming =>
      by_cases hseq : k.downSeq = none
      · exact (hfirst _ _ hs hseq).trans
          (congrArg stand (CraneLink.accepted_of_first (k := j) hs (.inr hseq) s.quayTime .up).symm)
      · exact (hboth _ _ hs hseq).trans
          (congrArg stand (CraneLink.accepted_of_both (k := j) hs (Option.some_ne_none q) hseq s.quayTime .up).symm)
    | live =>
      exact (hstays _ _ (.inl hs)).trans
        (congrArg stand (CraneLink.accepted_of_live (k := j) hs s.quayTime .up).symm)
    | degraded =>
      by_cases hr : k.config.recovery ≤ k.streak + 1
      · exact (hrecovered _ _ hs hr).trans
          (congrArg stand (CraneLink.accepted_of_recovered (k := j) hs hr s.quayTime .up).symm)
      · exact (hstreak _ _ hs hr).trans
          (congrArg stand (CraneLink.accepted_of_streak (k := j) hs hr s.quayTime .up).symm)
    | hold =>
      exact (hstays _ _ (.inr (.inl hs))).trans
        (congrArg stand (CraneLink.accepted_of_held (k := j) (.inl hs) s.quayTime).symm)
    | releasing =>
      exact (hstays _ _ (.inr (.inr hs))).trans
        (congrArg stand (CraneLink.accepted_of_held (k := j) (.inr hs) s.quayTime).symm)
  · let j := k.tookSeq .down q gap
    let send := fun j : CraneLink => { j with lastSent := some q }
    refine supervise_down hd hq hh (show _ = send (j.accepted s.quayTime .down) from ?_)
    generalize hafter : moved k.upSeq _ = after
    cases hs : k.state with
    | idle => exact absurd hs hi
    | arming =>
      by_cases hseq : k.upSeq = none
      · exact (hafter.symm.trans (hfirst _ _ hs hseq)).trans
          (congrArg send (CraneLink.accepted_of_first (k := j) hs (.inl hseq) s.quayTime .down).symm)
      · exact (hafter.symm.trans (hboth _ _ hs hseq)).trans
          (congrArg send (CraneLink.accepted_of_both (k := j) hs hseq (Option.some_ne_none q) s.quayTime .down).symm)
    | live =>
      exact (hafter.symm.trans (hstays _ _ (.inl hs))).trans
        (congrArg send (CraneLink.accepted_of_live (k := j) hs s.quayTime .down).symm)
    | degraded =>
      by_cases hr : k.config.recovery ≤ k.streak + 1
      · exact (hafter.symm.trans (hrecovered _ _ hs hr)).trans
          (congrArg send (CraneLink.accepted_of_recovered (k := j) hs hr s.quayTime .down).symm)
      · exact (hafter.symm.trans (hstreak _ _ hs hr)).trans
          (congrArg send (CraneLink.accepted_of_streak (k := j) hs hr s.quayTime .down).symm)
    | hold => exact absurd (.inl hs) hh
    | releasing => exact absurd (.inr hs) hh
  · intro taken
    rw [supervise_held hd hq hh]
    unfold acceptHeld
    refine ⟨fun htok => ?_, fun token htok => ?_⟩
    · simp only [show (readControl r.payload).token = none from htok]
      rfl
    · simp only [show (readControl r.payload).token = some token from htok]
      rfl

end

/-! PROOFS. The crane path selector: resolutions and the copies of a resolved frame (O36, O37). -/

namespace Sys2Proof.Machine

/-! ### Resolutions (R84 to R86) -/

theorem State.usable_none (s : State) : s.usable none = s.cellUp := by
  funext c
  simp [State.usable]

theorem State.usable_some_iff (s : State) (g : Segment) (c : Cell) :
    s.usable (some g) c = true ↔ s.cellUp c = true ∧ (s.cover (g.val * 32 + c.val)).state ≠ .hole := by
  rw [State.usable, Bool.and_eq_true]
  exact and_congr_right' (by rw [Bool.not_eq_true', decide_eq_false_iff_not]; rfl)

theorem State.mem_plannedUp (s : State) (e : PathEntry) (c : Cell) :
    c ∈ s.plannedUp e ↔ (e.primary = some c ∨ e.alternate = some c) ∧ s.cellUp c = true := by
  rw [State.plannedUp, List.mem_append, cellsBeyond, List.mem_filter, Option.mem_toList, Option.mem_toList,
    Option.filter_eq_some_iff, Option.filter_eq_some_iff, Bool.not_eq_true', List.contains_eq_mem,
    decide_eq_false_iff_not, Option.mem_toList, Option.filter_eq_some_iff]
  tauto

theorem State.nodup_plannedUp (s : State) (e : PathEntry) : (s.plannedUp e).Nodup := by
  have htoList : ∀ o : Option Cell, o.toList.Nodup := fun o => by cases o <;> simp
  refine List.Nodup.append (htoList _) ((htoList _).filter _) fun c hp ha => ?_
  rw [cellsBeyond, List.mem_filter, Bool.not_eq_true', List.contains_eq_mem, decide_eq_false_iff_not] at ha
  exact ha.2 hp

theorem State.head?_plannedUp {s : State} {e : PathEntry} {p : Cell} (hp : e.primary = some p)
    (hup : s.cellUp p = true) : (s.plannedUp e).head? = some p := by
  rw [State.plannedUp, hp, Option.filter_some_pos hup]
  rfl

section
variable {s : State} {l : Link} {g : Segment}

/-- At no segment the resolved cells in service stay, and else the home cell serves (R85). -/
theorem State.resolution_nowhere (h : (s.link l).segment = none) (home : Option Cell) : s.resolution l home =
    (if (s.link l).resolved.filter s.cellUp = [] then (home.filter s.cellUp).toList
      else (s.link l).resolved.filter s.cellUp, none) := by
  unfold State.resolution
  simp only [h, s.usable_none, List.isEmpty_iff]

theorem State.resolution_primary (h : (s.link l).segment = some g) {p : Cell} (hp : (s.pathEntry l g).primary = some p)
    (hu : s.usable (some g) p = true) (home : Option Cell) : s.resolution l home = ([p], some false) := by
  unfold State.resolution
  simp only [h, hp, Option.filter_some_pos hu]

theorem State.resolution_alternate (h : (s.link l).segment = some g)
    (hp : (s.pathEntry l g).primary.filter (s.usable (some g)) = none) {a : Cell}
    (ha : (s.pathEntry l g).alternate = some a) (hu : s.usable (some g) a = true) (home : Option Cell) :
    s.resolution l home = ([a], some false) := by
  unfold State.resolution
  simp only [h, hp, ha, Option.filter_some_pos hu]

theorem State.resolution_poor (h : (s.link l).segment = some g)
    (hp : (s.pathEntry l g).primary.filter (s.usable (some g)) = none)
    (ha : (s.pathEntry l g).alternate.filter (s.usable (some g)) = none) (home : Option Cell) :
    s.resolution l home = (s.plannedUp (s.pathEntry l g), some true) := by
  unfold State.resolution
  simp only [h, hp, ha]

end

/-! ### The copies of a frame (R37, R87 to R91) -/

theorem sameCells_iff (a b : List Cell) : sameCells a b = true ↔ ∀ c, c ∈ a ↔ c ∈ b := by
  rw [sameCells, Bool.and_eq_true, List.all_eq_true, List.all_eq_true]
  simp only [List.contains_iff_mem]
  exact ⟨fun ⟨h1, h2⟩ c => ⟨h1 c, h2 c⟩, fun h => ⟨fun c => (h c).1, fun c => (h c).2⟩⟩

theorem dispositionOfAll_eq (answers : List Admission) : dispositionOfAll answers =
    if .admitted ∈ answers then .forwarded else if .refused .pool ∈ answers then .dropPool else .dropQueueFull := by
  simp only [dispositionOfAll, List.contains_iff_mem]

/-- Where every cell is passed over, nothing changes. -/
theorem offerOnCells_passedOver {o : Origin} {f : Frame} {cells : List Cell} {s : State}
    (h : (offerOnCells o f cells s).1 = []) : (offerOnCells o f cells s).2 = s := by
  induction cells generalizing s with
  | nil => rfl
  | cons c cells ih =>
    unfold offerOnCells at h ⊢
    split at h
    · cases h
    next hp => rw [if_neg hp]; exact ih h

/-- The copies are offered on the send set, and their answers give the one disposition. -/
theorem sendCopies_eq (l : Link) (r : Passed) (crane : Option CraneState) (s : State)
    {offered : List Admission × State}
    (ho : offered = offerOnCells (.control (r.result crane)) r.frame (s.link l).sendSet s) :
    (offered.1 = [] → sendCopies l r crane s = present (r.verdict crane .dropNoPath) (offered.2.setLink l
      { s.link l with counts := { (s.link l).counts with noPath := bump16 (s.link l).counts.noPath } })) ∧
    (offered.1 ≠ [] → sendCopies l r crane s = present (r.verdict crane (if .admitted ∈ offered.1 then .forwarded
      else if .refused .pool ∈ offered.1 then .dropPool else .dropQueueFull)) offered.2) := by
  subst ho
  refine ⟨fun h => ?_, fun h => ?_⟩ <;> unfold sendCopies
  · refine (if_pos (List.isEmpty_iff.2 h)).trans ?_
    rw [offerOnCells_passedOver h]
    rfl
  · refine (if_neg fun he => h (List.isEmpty_iff.1 he)).trans ?_
    rw [dispositionOfAll_eq]
    rfl

theorem CraneLink.changeSet_opens {k : CraneLink} (h : 0 < k.config.overlap ∧ k.resolved ≠ []) (now : QuayTime)
    (result : List Cell) : k.changeSet now result = { k with
      previous := k.resolved, overlapExpiry := some (later now k.config.overlap), resolved := result
      counts := { k.counts with pathChanges := bump16 k.counts.pathChanges } } := by
  have hopens : (decide (0 < k.config.overlap) && !k.resolved.isEmpty) = true := by
    simpa [List.isEmpty_iff] using h
  unfold CraneLink.changeSet
  simp only [hopens, if_true]

theorem CraneLink.changeSet_closed {k : CraneLink} (h : ¬(0 < k.config.overlap ∧ k.resolved ≠ [])) (now : QuayTime)
    (result : List Cell) : k.changeSet now result = { k with
      previous := [], overlapExpiry := none, resolved := result
      counts := { k.counts with pathChanges := bump16 k.counts.pathChanges } } := by
  have hopens : (decide (0 < k.config.overlap) && !k.resolved.isEmpty) = false := by
    rw [← Bool.not_eq_true]
    simpa [List.isEmpty_iff] using h
  unfold CraneLink.changeSet
  simp only [hopens]
  rfl

/-- A resolution moves the sets of the link and notices a first poor result; then the frame is sent (R85 to R91). -/
theorem resolveAndSend_eq (l : Link) (r : Passed) (crane : Option CraneState) (s : State) {noticed : State}
    (hn : noticed = if (s.resolution l r.home).2 = some true ∧ (s.link l).pathPoor = false then
        (s.setLink l ((s.link l).resolvedTo s.quayTime (s.resolution l r.home).1 (s.resolution l r.home).2)).notify
          .pathPoor l.val (s.link l).config.pathPoorLevel (segmentWord (s.link l).segment)
      else s.setLink l ((s.link l).resolvedTo s.quayTime (s.resolution l r.home).1 (s.resolution l r.home).2)) :
    noticed.link l = (s.link l).resolvedTo s.quayTime (s.resolution l r.home).1 (s.resolution l r.home).2 ∧
    resolveAndSend l r crane s = if (s.resolution l r.home).1 = [] then present (r.verdict crane .dropNoPath) noticed
      else sendCopies l r crane noticed := by
  refine ⟨?_, ?_⟩
  · rw [hn]
    split
    · rw [State.link_notify, State.link_setLink, if_pos rfl]
    · rw [State.link_setLink, if_pos rfl]
  · have hpoor : ((s.resolution l r.home).2 = some true && !(s.link l).pathPoor) = true ↔
        (s.resolution l r.home).2 = some true ∧ (s.link l).pathPoor = false := by
      rw [Bool.and_eq_true, decide_eq_true_iff, Bool.not_eq_true']
    unfold resolveAndSend
    simp only [hpoor, ← hn, List.isEmpty_iff]
    rfl

end Sys2Proof.Machine

section
open Sys2Proof Sys2Proof.Machine

/-- Settles O36: what is usable decides, and the poor result is what the path entry plans in service. -/
theorem resolutionResult : Obligations.ResolutionResult := by
  intro s l home k
  refine ⟨fun hg => ?_, fun g hg => ?_⟩
  · rw [State.resolution_nowhere hg]
    refine ⟨fun h => by rw [if_neg h], fun h => ?_⟩
    rw [if_pos h]
    refine ⟨fun c hc hup => by rw [hc, Option.filter_some_pos hup]; rfl, fun hdown => ?_⟩
    rw [Option.filter_eq_none_iff.2 fun c hc => by simp [hdown c hc]]
    rfl
  · intro e usable
    have husable : ∀ c, usable c → s.usable (some g) c = true := fun c => (s.usable_some_iff g c).2
    have hnone : ∀ o : Option Cell, (∀ c, o = some c → ¬usable c) → o.filter (s.usable (some g)) = none :=
      fun o h => Option.filter_eq_none_iff.2 fun c hc hu => h c hc ((s.usable_some_iff g c).1 hu)
    refine ⟨fun p hp hu => State.resolution_primary hg hp (husable p hu) home, fun hp =>
      ⟨fun a ha hu => State.resolution_alternate hg (hnone _ hp) ha (husable a hu) home, fun ha => ?_⟩⟩
    rw [State.resolution_poor hg (hnone _ hp) (hnone _ ha)]
    exact ⟨rfl, s.nodup_plannedUp _, s.length_plannedUp_le _, s.mem_plannedUp _, fun p => State.head?_plannedUp⟩

/-- Settles O37: the result moves the sets of the link, and its send set is offered the frame. -/
theorem resolvedFramesSent : Obligations.ResolvedFramesSent := by
  intro s l r crane k found opens same poor offers
  obtain ⟨hpassed, hsent⟩ := sendCopies_eq l r crane s (offered := offers) rfl
  refine ⟨fun h => ?_, hsent, k.resolvedTo s.quayTime found.1 found.2, fun h => ?_, fun h hsame => ?_,
    fun h hsame ho => ?_, fun h hsame ho => ?_, ?_⟩
  · rw [hpassed h, show offers.2 = s from offerOnCells_passedOver h]
  · exact if_pos (List.isEmpty_iff.2 h)
  · exact (if_neg fun he => h (List.isEmpty_iff.1 he)).trans (if_pos ((sameCells_iff ..).2 hsame))
  · exact (if_neg fun he => h (List.isEmpty_iff.1 he)).trans ((if_neg fun hc => hsame ((sameCells_iff ..).1 hc)).trans
      (CraneLink.changeSet_opens (k := { k with applyNow := false, pathPoor := poor }) ho s.quayTime found.1))
  · exact (if_neg fun he => h (List.isEmpty_iff.1 he)).trans ((if_neg fun hc => hsame ((sameCells_iff ..).1 hc)).trans
      (CraneLink.changeSet_closed (k := { k with applyNow := false, pathPoor := poor }) ho s.quayTime found.1))
  · intro noticed sendSet offered
    obtain ⟨hlink, hrun⟩ := resolveAndSend_eq l r crane s (noticed := noticed) rfl
    obtain ⟨hpassed, hsent⟩ := sendCopies_eq l r crane noticed (offered := offered) (by rw [hlink]; rfl)
    rw [hlink] at hpassed
    exact ⟨fun h => hrun.trans (if_pos h), fun h ho => hrun.trans ((if_neg h).trans (hpassed ho)),
      fun h ho => hrun.trans ((if_neg h).trans (hsent ho))⟩

end

/-! PROOFS. Entry to HOLD (O33). -/

namespace Sys2Proof.Machine

/-! ### Commits (R80) -/

theorem Paths.get_commit (v : Paths) (l j : Link) (g : Segment) : (v.commit l).active.get (pathIndex j g) =
    if j = l then v.staged.get (pathIndex j g) else v.active.get (pathIndex j g) := by
  rw [Paths.commit_eq]
  exact (get_copyRange ..).trans (if_congr pathIndex_inRange rfl rfl)

/-- The path tables after a pending commit of a link, if there is one. -/
theorem Paths.get_pending (v : Paths) (l j : Link) (g : Segment) (pending : Bool) :
    (if pending then v.commit l else v).active.get (pathIndex j g) =
      if j = l ∧ pending = true then v.staged.get (pathIndex j g) else v.active.get (pathIndex j g) := by
  cases pending with
  | true => simp [Paths.get_commit]
  | false => simp

theorem Paths.pending_eq (v : Paths) (l : Link) (pending : Bool) :
    (if pending then v.commit l else v) = { v with active := (if pending then v.commit l else v).active } := by
  cases pending with
  | true => simp [Paths.commit_eq]
  | false => rfl

/-! ### What an offered notice and a hold order change -/

theorem State.notify_eq (s : State) (ev : Event) (i level : Nat) (data : Option (BitVec 16)) :
    s.notify ev i level data = { s with
      notices := (s.notify ev i level data).notices, store := (s.notify ev i level data).store } :=
  State.notify_capture s s.capture ev i level data

/-- No frame is flushed from a queue, and what joins it is a hold order. -/
def Queue.Ordered (q q' : Queue) : Prop :=
  q'.flushed = q.flushed ∧ ∀ e ∈ q'.entries, e ∈ q.entries ∨ e.origin = .holdOrder

theorem Queue.Ordered.refl (q : Queue) : q.Ordered q := ⟨rfl, fun _ => .inl⟩

theorem Queue.Ordered.trans {q q' q'' : Queue} (h : q.Ordered q') (k : q'.Ordered q'') : q.Ordered q'' :=
  ⟨k.1.trans h.1, fun e he => (k.2 e he).elim (h.2 e) .inr⟩

theorem Queue.counted_flushed (q : Queue) (a : Admission) : (q.counted a).flushed = q.flushed := by
  cases a with
  | admitted => rfl
  | refused c => cases c <;> rfl

section
variable {st : FrameStore} {settings : Table Nat} {p q : Port} {c d : Class}

theorem Queue.Ordered.select (st : FrameStore) (settings : Table Nat) (q p : Port) (c : Class) :
    (st.queue p c).Ordered ((st.select settings q).queue p c) := by
  rcases st.select_cases settings q with h | ⟨d, e, rest, turn, credit, -, -, he, -, h⟩
  · rw [h]
    exact .refl _
  · rw [h, FrameStore.queue_setPort, FrameStore.queue_setQueue]
    split
    next hpc =>
      obtain ⟨rfl, rfl⟩ := hpc
      exact ⟨rfl, fun x hx => .inl (he ▸ List.mem_cons_of_mem e hx)⟩
    next => exact .refl _

theorem Queue.Ordered.offer {e : QueueEntry} (h : p = q → e.origin = .holdOrder) (settings : Table Nat)
    (c d : Class) : (st.queue p c).Ordered ((st.offer settings q d e).2.queue p c) := by
  rcases st.offer_cases settings q d e with ⟨cause, -, hr⟩ | ⟨-, ha⟩
  · rw [hr, FrameStore.queue_setQueue]
    split
    next hpc =>
      obtain ⟨rfl, rfl⟩ := hpc
      exact ⟨Queue.counted_flushed .., fun x hx => .inl (by rwa [Queue.counted_entries] at hx)⟩
    next => exact .refl _
  · rw [ha]
    refine Queue.Ordered.trans ?_ (.select _ settings q p c)
    rw [FrameStore.queue_setQueue]
    split
    next hpc =>
      obtain ⟨rfl, rfl⟩ := hpc
      refine ⟨Queue.counted_flushed .., fun x hx => ?_⟩
      rcases List.mem_append.1 hx with hx | hx
      · exact .inl (by rwa [Queue.counted_entries] at hx)
      · rw [List.mem_singleton.1 hx]
        exact .inr (h rfl)
    next => exact .refl _

end

/-- Notices go to the yard port. -/
theorem Queue.Ordered.emit {p : Port} (hp : p ≠ .y) (c : Class) (n : Nat) (s : State) :
    (s.store.queue p c).Ordered ((emit n s).store.queue p c) := by
  induction n generalizing s with
  | zero => exact .refl _
  | succ n ih =>
    have hoffer : (s.store.queue p c).Ordered (s.noticeOffer.2.store.queue p c) := .offer (fun h => absurd h hp) ..
    by_cases h : s.emits
    · cases ho : s.noticeOffer.1 with
      | refused cause =>
        rw [(emit_succ_of_ready h n).1 cause ho]
        exact hoffer
      | admitted =>
        rw [(emit_succ_of_ready h n).2 ho]
        exact hoffer.trans (ih _)
    · rw [emit_of_idle h]
      exact .refl _

theorem Queue.Ordered.notify {p : Port} (hp : p ≠ .y) (c : Class) (s : State) (ev : Event) (i level : Nat)
    (data : Option (BitVec 16)) : (s.store.queue p c).Ordered ((s.notify ev i level data).store.queue p c) := by
  have hemit : ∀ u : NoticeUnit,
      (s.store.queue p c).Ordered (({ s with notices := u } : State).emitNotices.store.queue p c) := fun u =>
    .emit hp c _ { s with notices := u }
  unfold State.notify State.takeNotice
  split
  · exact .refl _
  · simp only
    split
    · exact .refl _
    · split
      · exact hemit _
      · split
        · exact hemit _
        · exact .refl _

theorem Queue.Ordered.offerOnCells (f : Frame) (cells : List Cell) (p : Port) (c : Class) (s : State) :
    (s.store.queue p c).Ordered ((offerOnCells .holdOrder f cells s).2.store.queue p c) := by
  induction cells generalizing s with
  | nil => exact .refl _
  | cons k cells ih =>
    unfold Machine.offerOnCells
    split
    · exact (Queue.Ordered.offer (fun _ => rfl) ..).trans (ih _)
    · exact ih s

theorem Queue.Ordered.holdAttempt (l : Link) (p : Port) (c : Class) (s : State) :
    (s.store.queue p c).Ordered ((holdAttempt l s).store.queue p c) := by
  rw [holdAttempt_eq l s rfl]
  split
  · exact .refl _
  · exact .offerOnCells ..

/-! ### The withdrawal of a bearer's frames (R59) -/

theorem FrameStore.least_withdraw (st : FrameStore) (b : BitVec 12) : (st.withdraw b).least = st.least := by
  simp [FrameStore.withdraw, quayPorts]

theorem FrameStore.noCell_withdraw (st : FrameStore) (b : BitVec 12) : (st.withdraw b).noCell = st.noCell := by
  simp [FrameStore.withdraw, quayPorts]

theorem isFrameOf_iff (b : BitVec 12) (e : QueueEntry) :
    isFrameOf b e = true ↔ ∃ r, (e.origin = .control r ∨ e.origin = .forwarded r) ∧ r.bearer = b := by
  unfold isFrameOf
  cases e.origin <;> simp

/-! ### Entry to HOLD (R58) -/

/-- The state whose first hold order an entry to HOLD attempts: the link has entered and its notice was offered. -/
def State.holdNoticed (s : State) (l : Link) (reason : HoldReason) : State :=
  (s.holdBegun l reason).notify (if reason = .managed then .holdManaged else .holdDeadline) l.val
    (s.link l).config.holdLevel (segmentWord (s.link l).segment)

/-- What entry to HOLD changes: the links, the active path entries, the Frame Store and the Notice Unit. -/
theorem enterHold_frame (l : Link) (reason : HoldReason) (s : State) : ∃ links store, enterHold l reason s = { s with
    links := links, store := store, paths := if (s.link l).commitPending then s.paths.commit l else s.paths
    notices := (s.holdNoticed l reason).notices } := by
  have h := enterHold_eq l reason s (noticed := s.holdNoticed l reason) rfl
  obtain ⟨st, k, hk⟩ := holdAttempt_frame l (s.holdNoticed l reason)
  obtain ⟨notices, store, hn⟩ : ∃ notices store, s.holdNoticed l reason =
      { s.holdBegun l reason with notices := notices, store := store } := ⟨_, _, State.notify_eq ..⟩
  obtain ⟨links, withdrawn, hb⟩ : ∃ links store, s.holdBegun l reason = { s with
      links := links, store := store, paths := if (s.link l).commitPending then s.paths.commit l else s.paths } :=
    ⟨_, _, rfl⟩
  rw [h, hk, hn, hb]
  exact ⟨_, st, rfl⟩

/-- On the quay ports, what entry to HOLD leaves is what the withdrawal leaves and hold orders. -/
theorem Queue.Ordered.enterHold {p : Port} (hp : p ≠ .y) (c : Class) (l : Link) (reason : HoldReason) (s : State) :
    ((s.store.withdraw (s.link l).config.bearer).queue p c).Ordered ((enterHold l reason s).store.queue p c) := by
  rw [enterHold_eq l reason s rfl]
  exact (Queue.Ordered.notify hp c (s.holdBegun l reason) ..).trans (.holdAttempt ..)

end Sys2Proof.Machine

section
open Sys2Proof Sys2Proof.Machine

/-- Settles O33: the state once the link has entered and its frames are withdrawn is the one whose notice is offered and
whose first hold order is attempted. -/
theorem entryToHold : Obligations.EntryToHold := by
  intro s l reason hreason k t
  obtain ⟨links, store, hframe⟩ : ∃ links store, t = { s with
      links := links, store := store, paths := if k.commitPending then s.paths.commit l else s.paths
      notices := (s.holdNoticed l reason).notices } := enterHold_frame l reason s
  obtain ⟨v, hv, hlink⟩ : ∃ v, (v = (k.entered reason).defer ∨ v = (k.entered reason).ordered) ∧
      t.link l = { v with nextHold := some (later s.quayTime k.config.period) } := enterHold_link l reason s
  have hwithdraw : ∀ p c, p ≠ .y → (s.store.withdraw k.config.bearer).queue p c = { s.store.queue p c with
      entries := (s.store.queue p c).entries.filter fun e => !isFrameOf k.config.bearer e
      flushed := (s.store.queue p c).flushed + BitVec.ofNat 32
        ((s.store.queue p c).entries.filter (isFrameOf k.config.bearer)).length } := fun p c hp => by
    rw [FrameStore.queue_withdraw, if_neg hp]
    rfl
  have hqueue : ∀ p c, p ≠ .y → ((s.store.withdraw k.config.bearer).queue p c).Ordered (t.store.queue p c) :=
    fun p c hp => .enterHold hp c l reason s
  refine ⟨?_, ?_, ?_, fun j hj => enterHold_link_other hj reason s, fun j g => ?_, isFrameOf_iff,
    fun p c hp => ⟨fun e he => ?_, ?_⟩, s.store.withdraw k.config.bearer, s.holdBegun l reason,
    fun p => FrameStore.port_withdraw .., fun c => ?_, hwithdraw, ?_, FrameStore.least_withdraw ..,
    FrameStore.noCell_withdraw .., ?_, fun j hj => ?_, ?_, ?_⟩
  · rw [hframe]
    exact congrArg (fun v : Paths => ({ s with
      links := links, paths := v, store := store, notices := (s.holdNoticed l reason).notices } : State))
      (Paths.pending_eq ..)
  · rw [hlink]
    rcases hv with rfl | rfl <;> rfl
  · rw [hlink]
    rcases hv with rfl | rfl
    · exact .inr ⟨rfl, rfl, rfl, rfl⟩
    · exact .inl ⟨rfl, rfl, rfl, rfl⟩
  · rw [hframe]
    exact Paths.get_pending ..
  · rcases (hqueue p c hp).2 e he with h | h
    · rw [hwithdraw p c hp] at h
      simpa using (List.mem_filter.1 h).2
    · rw [← Bool.not_eq_true, isFrameOf_iff, h]
      rintro ⟨r, ho | ho, -⟩ <;> cases ho
  · rw [(hqueue p c hp).1, hwithdraw p c hp]
  · rw [FrameStore.queue_withdraw, if_pos rfl]
  · exact (StoreKeeps.withdraw (fun _ _ _ => True) s.settings s.store k.config.bearer).whole
  · rw [hframe]
    rfl
  · rw [State.holdBegun_link, if_neg hj]
  · rw [State.holdBegun_link, if_pos rfl]
    rfl
  · refine ⟨?_, enterHold_eq l reason s rfl⟩
    rw [hframe]
    rfl

end

/-! PROOFS. The commands on crane links: Crane Hold, Commit Paths, and writes and clears of CRANES (O34, O35, O23). -/

namespace Sys2Proof.Machine

/-! ### Masks of links (R62, R81, R192) -/

theorem sum_bits_eq_ofBits {n : Nat} (p : Fin n → Bool) :
    ((List.finRange n).map fun l => if p l then 2 ^ l.val else 0).sum = Nat.ofBits p := by
  induction n with
  | zero => rfl
  | succ n ih =>
    rw [List.finRange_succ, List.map_cons, List.sum_cons, List.map_map, Nat.ofBits_succ, ← ih (p ∘ Fin.succ),
      ← List.sum_map_mul_left, add_comm]
    congr 1
    · refine congrArg List.sum (List.map_congr_left fun l _ => ?_)
      simp [pow_succ, mul_comm]
    · cases p 0 <;> rfl

theorem maskOf_toNat (p : Link → Bool) : (maskOf p).toNat = Nat.ofBits p := by
  rw [maskOf, allLinks, sum_bits_eq_ofBits, BitVec.toNat_ofNat]
  exact Nat.mod_eq_of_lt (Nat.lt_trans (Nat.ofBits_lt_two_pow p) (by decide))

theorem maskBit_maskOf (p : Link → Bool) (l : Link) : maskBit (maskOf p) l = p l := by
  rw [maskBit, BitVec.getLsbD, maskOf_toNat, Nat.testBit_ofBits_lt p l.val l.isLt]

theorem maskOf_toNat_lt (p : Link → Bool) : (maskOf p).toNat < 65536 := by
  rw [maskOf_toNat]
  exact Nat.ofBits_lt_two_pow p

/-! ### Acting on links one by one -/

/-- The members of an ordered list around one of them. -/
theorem split_of_pairwise {links : List Link} (h : links.Pairwise (· < ·)) {l : Link} (hl : l ∈ links) :
    links = (links.filter fun j => decide (j < l)) ++ l :: links.filter fun j => decide (l < j) := by
  induction links with
  | nil => cases hl
  | cons k links ih =>
    obtain ⟨hk, hp⟩ := List.pairwise_cons.1 h
    rcases List.mem_cons.1 hl with rfl | hl
    · have hbefore : (links.filter fun j => decide (j < l)) = [] := by
        rw [List.filter_eq_nil_iff]
        intro j hj
        simpa using le_of_lt (hk j hj)
      have hafter : (links.filter fun j => decide (l < j)) = links := by
        rw [List.filter_eq_self]
        intro j hj
        exact decide_eq_true (hk j hj)
      simp [hbefore, hafter]
    · have hkl := hk l hl
      rw [List.filter_cons_of_pos (by simpa using hkl), List.filter_cons_of_neg (by simpa using le_of_lt hkl),
        List.cons_append]
      exact congrArg _ (ih hp hl)

theorem maskLinks_pairwise (mask : BitVec 16) : (maskLinks mask).Pairwise (· < ·) :=
  (List.pairwise_lt_finRange 16).filter _

section
variable {α : Type} {f : State → Link → State} {l : Link} {obs : State → α}

/-- What the acts on other links leave alone is left alone by all of them. -/
theorem obs_foldl_of_notMem (h : ∀ s m, m ≠ l → obs (f s m) = obs s) {links : List Link} (hl : l ∉ links) (s : State) :
    obs (links.foldl f s) = obs s := by
  induction links generalizing s with
  | nil => rfl
  | cons m links ih =>
    rw [List.mem_cons, not_or] at hl
    rw [List.foldl_cons, ih hl.2, h s m (Ne.symm hl.1)]

/-- What the acts on other links leave alone is, after all, what the act on this link made of it. -/
theorem obs_foldl_of_mem (h : ∀ s m, m ≠ l → obs (f s m) = obs s) {links : List Link} (hp : links.Pairwise (· < ·))
    (hl : l ∈ links) (s : State) :
    obs ((links.filter fun j => decide (j < l)).foldl f s) = obs s ∧
      obs (links.foldl f s) = obs (f ((links.filter fun j => decide (j < l)).foldl f s) l) := by
  have hbefore : l ∉ links.filter fun j => decide (j < l) := by simp
  have hafter : l ∉ links.filter fun j => decide (l < j) := by simp
  refine ⟨obs_foldl_of_notMem h hbefore s, ?_⟩
  conv_lhs => rw [split_of_pairwise hp hl, List.foldl_append, List.foldl_cons]
  exact obs_foldl_of_notMem h hafter _

/-- A relation that each act keeps is kept by all of them. -/
theorem foldl_links_rel {R : State → State → Prop} (hrefl : ∀ s, R s s) (htrans : ∀ {s t u}, R s t → R t u → R s u)
    (h : ∀ s l, R s (f s l)) (links : List Link) (s : State) : R s (links.foldl f s) := by
  induction links generalizing s with
  | nil => exact hrefl s
  | cons l links ih => exact htrans (h s l) (ih _)

end

/-- A command with a crane mask that is not 0, by itself, acts on each link of the mask (R62, R81). -/
theorem runCommand_orderLinks {s : State} (h : s.alone) (code : Byte) {mask : BitVec 16} (hm : mask ≠ 0)
    (act : Link → State → State) (found : State → Link → Bool) :
    runCommand code 0 (orderLinks mask act found) s =
      ((maskLinks mask).foldl (fun s l => act l s) s).answered code .ok
        (maskOf (found ((maskLinks mask).foldl (fun s l => act l s) s))) := by
  rw [runCommand_alone h]
  unfold orderLinks
  simp only [if_neg hm]
  rfl

theorem runCommand_orderLinks_zero {s : State} (h : s.alone) (code : Byte) (act : Link → State → State)
    (found : State → Link → Bool) : runCommand code 0 (orderLinks 0 act found) s = s.ruled code .badValue := by
  rw [runCommand_alone h]
  rfl

/-! ### Crane Hold (R62) -/

/-- What a Crane Hold changes. -/
def State.HoldActs (s t : State) : Prop :=
  t = { s with
    links := t.links, paths := { s.paths with active := t.paths.active }, store := t.store, notices := t.notices }

theorem State.HoldActs.trans {s t u : State} (h : s.HoldActs t) (k : t.HoldActs u) : s.HoldActs u := by
  unfold State.HoldActs at *
  rw [k, h]

theorem enterHold_holdActs (l : Link) (reason : HoldReason) (s : State) : s.HoldActs (enterHold l reason s) := by
  obtain ⟨links, store, hframe⟩ := enterHold_frame l reason s
  rw [State.HoldActs, hframe]
  exact congrArg (fun v : Paths => ({ s with
    links := links, paths := v, store := store, notices := (s.holdNoticed l reason).notices } : State))
    (Paths.pending_eq ..)

theorem holdLink_eq (l : Link) (s : State) : holdLink l s =
    if (s.link l).state = .idle ∨ (s.link l).state = .hold then s
    else if (s.link l).state = .releasing then
      s.setLink l { s.link l with state := .hold, releaseExpiry := none, reason := .managed }
    else enterHold l .managed s := by
  unfold holdLink
  cases h : (s.link l).state
  all_goals simp
  rfl

theorem holdLink_holdActs (l : Link) (s : State) : s.HoldActs (holdLink l s) := by
  rw [holdLink_eq]
  split
  · rfl
  · split
    · rfl
    · exact enterHold_holdActs ..

theorem holdLink_link_other {l m : Link} (h : m ≠ l) (s : State) : (holdLink l s).link m = s.link m := by
  rw [holdLink_eq]
  split
  · rfl
  · split
    · rw [State.link_setLink, if_neg h]
    · exact enterHold_link_other h ..

theorem holdLink_link_releasing {l : Link} {s : State} (h : (s.link l).state = .releasing) : (holdLink l s).link l =
    { s.link l with state := .hold, releaseExpiry := none, reason := .managed } := by
  rw [holdLink_eq, if_neg (by rw [h]; decide), if_pos h, State.link_setLink, if_pos rfl]

/-! ### Commit Paths (R81, R82) -/

/-- What a Commit Paths changes. -/
def State.CommitActs (s t : State) : Prop :=
  t = { s with links := t.links, paths := { s.paths with active := t.paths.active } }

theorem State.CommitActs.trans {s t u : State} (h : s.CommitActs t) (k : t.CommitActs u) : s.CommitActs u := by
  unfold State.CommitActs at *
  rw [k, h]

/-- What concerns a link's paths: its record, its active entries and all staged ones. -/
def State.pathsOf (s : State) (l : Link) : CraneLink × (Segment → PathEntry) × Table PathEntry :=
  (s.link l, fun g => s.paths.active.get (pathIndex l g), s.paths.staged)

/-- A Commit Paths on a link copies the staged entries, unless the link works and the paths are not wanted now (R81,
R82). -/
theorem commitLink_at_once {now : Bool} {l : Link} {s : State} (h : now = true ∨ ¬(s.link l).isWorking) :
    commitLink now l s = ({ s with paths := s.paths.commit l } : State).setLink l { s.link l with
      commitPending := false
      applyNow := if now = true ∧ (s.link l).state ≠ .idle then true else (s.link l).applyNow } := by
  unfold commitLink
  rw [applyCommit_eq]
  cases now with
  | true =>
    simp only [if_true, State.link_setLink, State.setLink_setLink, true_and, ne_eq, ite_not]
    split <;> rfl
  | false =>
    have hw : ¬((s.link l).state = .live ∨ (s.link l).state = .degraded) := h.resolve_left Bool.false_ne_true
    rw [if_neg Bool.false_ne_true, if_neg hw, if_neg fun hc => Bool.false_ne_true hc.1]
    rfl

theorem commitLink_pending {l : Link} {s : State} (h : (s.link l).isWorking) :
    commitLink false l s = s.setLink l { s.link l with commitPending := true } :=
  if_pos h

theorem commitLink_cases (now : Bool) (l : Link) (s : State) :
    (now = false ∧ (s.link l).isWorking) ∨ now = true ∨ ¬(s.link l).isWorking := by
  cases now <;> simp [em]

theorem commitLink_commitActs (now : Bool) (l : Link) (s : State) : s.CommitActs (commitLink now l s) := by
  rcases commitLink_cases now l s with ⟨rfl, h⟩ | h
  · rw [commitLink_pending h]
    rfl
  · rw [commitLink_at_once h, Paths.commit_eq]
    rfl

theorem commitLink_pathsOf_other (now : Bool) {l m : Link} (hm : m ≠ l) (s : State) :
    (commitLink now l s).pathsOf m = s.pathsOf m := by
  rcases commitLink_cases now l s with ⟨rfl, h⟩ | h
  · rw [commitLink_pending h, State.pathsOf, State.link_setLink, if_neg hm]
    rfl
  · rw [commitLink_at_once h, State.pathsOf, State.link_setLink, if_neg hm]
    refine congrArg (Prod.mk _) (congrArg₂ Prod.mk (funext fun g => ?_) ?_)
    · exact (Paths.get_commit ..).trans (if_neg hm)
    · rw [State.setLink_paths, Paths.commit_eq]

theorem commitLink_pathsOf_pending {l : Link} {s : State} (h : (s.link l).isWorking) :
    (commitLink false l s).pathsOf l = ({ s.link l with commitPending := true }, (s.pathsOf l).2) := by
  rw [commitLink_pending h, State.pathsOf, State.link_setLink, if_pos rfl]
  rfl

theorem commitLink_pathsOf_at_once {now : Bool} {l : Link} {s : State} (h : now = true ∨ ¬(s.link l).isWorking) :
    (commitLink now l s).pathsOf l = ({ s.link l with
      commitPending := false
      applyNow := if now = true ∧ (s.link l).state ≠ .idle then true else (s.link l).applyNow },
      fun g => s.paths.staged.get (pathIndex l g), s.paths.staged) := by
  rw [commitLink_at_once h, State.pathsOf, State.link_setLink, if_pos rfl]
  refine congrArg (Prod.mk _) (congrArg₂ Prod.mk (funext fun g => ?_) ?_)
  · exact (Paths.get_commit ..).trans (if_pos rfl)
  · rw [State.setLink_paths, Paths.commit_eq]

end Sys2Proof.Machine

section
open Sys2Proof Sys2Proof.Machine

/-- Settles O34: a link's record is what the command makes of it alone, on the state the links before it left. -/
theorem craneHoldActs : Obligations.CraneHoldActs := by
  intro s mask h held links
  have hheld : held = fun s l => holdLink l s := funext fun u => funext fun l => (holdLink_eq l u).symm
  refine ⟨fun hm => ?_, fun hm => ⟨maskOf fun l => decide (((links.foldl held s).link l).state = .hold), ?_⟩⟩
  · subst hm
    exact congrArg _ (runCommand_orderLinks_zero h 6 ..)
  · intro t
    have hother : ∀ l (u : State) m, m ≠ l → (held u m).link l = u.link l := fun l u m hml => by
      rw [hheld]
      exact holdLink_link_other (Ne.symm hml) u
    have hat : ∀ l : Link, mask.getLsbD l.val = true →
        ((links.filter fun j => decide (j < l)).foldl held s).link l = s.link l ∧
          t.link l = (held ((links.filter fun j => decide (j < l)).foldl held s) l).link l := fun l hl =>
      obs_foldl_of_mem (obs := fun u => u.link l) (hother l) (maskLinks_pairwise mask)
        (List.mem_filter.2 ⟨List.mem_finRange l, hl⟩) s
    refine ⟨?_, fun l => maskBit_maskOf _ l, maskOf_toNat_lt _, ?_, fun l => ⟨fun hl => ?_, fun hmask hs => ?_,
      fun hmask hs => ?_⟩⟩
    · refine (congrArg _ (runCommand_orderLinks h 6 hm holdLink _)).trans ?_
      rw [← hheld]
      rfl
    · refine foldl_links_rel (R := State.HoldActs) (fun _ => rfl) State.HoldActs.trans (fun u l => ?_) links s
      rw [hheld]
      exact holdLink_holdActs l u
    · by_cases hmask : mask.getLsbD l.val = true
      · obtain ⟨hbefore, hafter⟩ := hat l hmask
        refine hafter.trans (Eq.trans ?_ hbefore)
        refine congrArg (State.link · l) (if_pos ?_)
        rw [hbefore]
        exact hl.imp id fun h => h.resolve_right (by rw [hmask]; exact Bool.noConfusion)
      · refine obs_foldl_of_notMem (obs := fun u => u.link l) (hother l) (fun hmem => hmask ?_) s
        exact (List.mem_filter.1 hmem).2
    · obtain ⟨hbefore, hafter⟩ := hat l hmask
      refine hafter.trans ?_
      rw [← hbefore] at hs ⊢
      rw [hheld] at hs ⊢
      exact holdLink_link_releasing hs
    · intro before
      obtain ⟨hbefore, hafter⟩ := hat l hmask
      have henter : t.link l = (enterHold l .managed before).link l := by
        refine hafter.trans (congrArg (State.link · l) ((if_neg ?_).trans (if_neg ?_)))
        all_goals
          rw [hbefore]
          rcases hs with hs | hs | hs <;> simp [hs]
      obtain ⟨v, hv, hlink⟩ := enterHold_link l .managed before
      rw [show before.link l = s.link l from hbefore] at hv
      refine ⟨hbefore, henter, ?_⟩
      rw [henter, hlink]
      rcases hv with rfl | rfl <;> exact ⟨rfl, rfl, rfl, rfl⟩

/-- Settles O35: a link's record and paths are what the command makes of them alone. -/
theorem commitPathsActs : Obligations.CommitPathsActs := by
  intro s mask now h
  refine ⟨fun hm => ?_, fun hm => ⟨(maskLinks mask).foldl (fun s l => commitLink now l s) s, _,
    congrArg _ (runCommand_orderLinks h 5 hm ..), fun l => maskBit_maskOf _ l, maskOf_toNat_lt _, ?_, fun l => ?_⟩⟩
  · subst hm
    exact congrArg _ (runCommand_orderLinks_zero h 5 ..)
  · exact foldl_links_rel (R := State.CommitActs) (fun _ => rfl) State.CommitActs.trans
      (fun u l => commitLink_commitActs now l u) _ s
  · intro k
    have hother : ∀ (u : State) m, m ≠ l → (commitLink now m u).pathsOf l = u.pathsOf l := fun u m hm =>
      commitLink_pathsOf_other now (Ne.symm hm) u
    refine ⟨fun hmask => ?_, fun hmask hnow hw => ?_, fun hmask hnow => ?_⟩
    · have hkeep := obs_foldl_of_notMem (f := fun s l => commitLink now l s) (obs := fun u => u.pathsOf l) hother
        (links := maskLinks mask) (fun hmem =>
          Bool.false_ne_true (hmask.symm.trans (List.mem_filter.1 hmem).2)) s
      obtain ⟨hlink, hrest⟩ := Prod.ext_iff.1 hkeep
      exact ⟨hlink, congrFun (Prod.ext_iff.1 hrest).1⟩
    all_goals
      obtain ⟨hbefore, hafter⟩ := obs_foldl_of_mem (f := fun s l => commitLink now l s) (obs := fun u => u.pathsOf l)
        hother (maskLinks_pairwise mask) (List.mem_filter.2 ⟨List.mem_finRange l, hmask⟩) s
      generalize ((maskLinks mask).filter fun j => decide (j < l)).foldl (fun s l => commitLink now l s) s = before
        at hbefore hafter
      obtain ⟨hlink, hrest⟩ := Prod.ext_iff.1 hbefore
      simp only [State.pathsOf] at hlink
    · subst hnow
      rw [commitLink_pathsOf_pending (by rw [hlink]; exact hw), hbefore, hlink] at hafter
      obtain ⟨hl, hp⟩ := Prod.ext_iff.1 hafter
      exact ⟨hl, congrFun (Prod.ext_iff.1 hp).1⟩
    · rw [commitLink_pathsOf_at_once (by rw [hlink]; exact hnow), hlink,
        show before.paths.staged = s.paths.staged from (Prod.ext_iff.1 hrest).2] at hafter
      obtain ⟨hl, hp⟩ := Prod.ext_iff.1 hafter
      exact ⟨hl, congrFun (Prod.ext_iff.1 hp).1⟩

end

/-! PROOFS. What a table says of a write and of a clear, once for all tables (R186), and writes and clears of CRANES
(O23). -/

namespace Sys2Proof.Machine

/-! ### A command by itself -/

theorem runCommand_ruled {s t : State} {r : ResultCode} {owner : State → Ruling × State} (h : s.alone) (code : Byte)
    (size : Nat) (ho : owner s = (ruling r, t)) : runCommand code size owner s = t.ruled code r := by
  rw [runCommand_alone h, ho]
  rfl

section tables
variable {s : State} {code : Byte} {size : Nat}

section write
variable {α : Type} {entries index : Nat} {fields : Option α} {test : State → α → ResultCode}
  {store : α → State → State} {v : α}

theorem runCommand_write_beyond (h : s.alone) (hi : entries ≤ index) :
    runCommand code size (fun s => writeEntry entries index fields (test s) store s) s = s.ruled code .badIndex :=
  runCommand_ruled h code size (if_pos hi)

theorem runCommand_write_unread (h : s.alone) (hi : index < entries) (hf : fields = none) :
    runCommand code size (fun s => writeEntry entries index fields (test s) store s) s = s.ruled code .badValue := by
  subst hf
  exact runCommand_ruled h code size (if_neg (Nat.not_le.2 hi))

theorem runCommand_write_refused (h : s.alone) (hi : index < entries) (hf : fields = some v) (ht : test s v ≠ .ok) :
    runCommand code size (fun s => writeEntry entries index fields (test s) store s) s = s.ruled code (test s v) := by
  subst hf
  exact runCommand_ruled h code size ((if_neg (Nat.not_le.2 hi)).trans (if_neg ht))

theorem runCommand_write_stored (h : s.alone) (hi : index < entries) (hf : fields = some v) (ht : test s v = .ok) :
    runCommand code size (fun s => writeEntry entries index fields (test s) store s) s =
      (store v s).ruled code .ok := by
  subst hf
  exact runCommand_ruled h code size ((if_neg (Nat.not_le.2 hi)).trans (if_pos ht))

end write

section clear
variable {entries first count : Nat} {test : State → ResultCode} {clear : State → State}

theorem rangeCode_zero (entries first : Nat) : rangeCode entries first 0 = .badValue := rfl

theorem rangeCode_beyond (hc : 0 < count) (h : entries < first + count) : rangeCode entries first count = .badIndex :=
  (if_neg (Nat.ne_of_gt hc)).trans (if_pos h)

theorem rangeCode_within (hc : 0 < count) (h : first + count ≤ entries) : rangeCode entries first count = .ok :=
  (if_neg (Nat.ne_of_gt hc)).trans (if_neg (Nat.not_lt.2 h))

theorem runCommand_clear_refused (h : s.alone) (hr : rangeCode entries first count ≠ .ok) :
    runCommand code size (fun s => clearEntries entries first count (test s) clear s) s =
      s.ruled code (rangeCode entries first count) := by
  refine runCommand_ruled h code size ?_
  unfold clearEntries guarded
  rw [if_neg hr, if_neg hr]

/-- A count of 0 is BAD_VALUE, and a range beyond the table BAD_INDEX. -/
theorem runCommand_clear_range (h : s.alone) :
    (count = 0 → runCommand code size (fun s => clearEntries entries first count (test s) clear s) s =
      s.ruled code .badValue) ∧
    (0 < count → entries < first + count →
      runCommand code size (fun s => clearEntries entries first count (test s) clear s) s =
        s.ruled code .badIndex) := by
  refine ⟨fun hc => ?_, fun hc hb => ?_⟩
  · subst hc
    rw [runCommand_clear_refused h (by rw [rangeCode_zero]; decide), rangeCode_zero]
  · rw [runCommand_clear_refused h (by rw [rangeCode_beyond hc hb]; decide), rangeCode_beyond hc hb]

theorem runCommand_clear_tested (h : s.alone) (hc : 0 < count) (hr : first + count ≤ entries) :
    (test s ≠ .ok → runCommand code size (fun s => clearEntries entries first count (test s) clear s) s =
      s.ruled code (test s)) ∧
    (test s = .ok → runCommand code size (fun s => clearEntries entries first count (test s) clear s) s =
      (clear s).ruled code .ok) := by
  have hin := rangeCode_within hc hr
  refine ⟨fun ht => runCommand_ruled h code size ?_, fun ht => runCommand_ruled h code size ?_⟩ <;>
    unfold clearEntries guarded
  · rw [if_pos hin, if_neg ht]
  · rw [if_pos hin, if_pos ht]

end clear

end tables

/-! ### CRANES (R46 to R50) -/

theorem within_iff {lo hi n : Nat} : within lo hi n = true ↔ lo ≤ n ∧ n ≤ hi := by
  simp [within]

/-- The ranges of R46 are those a Write Entry on CRANES is read by. -/
theorem craneFieldsSound_iff (f : CraneFields) :
    (within 0 1 f.enable.toNat && within 0 4095 f.bearer.toNat && within 5 500 f.period.toNat &&
      decide (f.jitter.toNat ≤ f.period.toNat) && within 1 15 f.threshold.toNat && within 2 30 f.recovery.toNat &&
      within 0 1000 f.overlap.toNat && within 100 10000 f.window.toNat && !decide (f.tokenA = f.tokenB) &&
      within 8 64 f.templateLength.toNat && within 0 7 f.degradedLevel.toNat && within 0 7 f.holdLevel.toNat &&
      within 0 7 f.releasedLevel.toNat && within 0 7 f.pathPoorLevel.toNat &&
      !(decide (f.enable = 1) && decide (f.bearer = 0))) = true ↔ ¬craneFieldsFaulty f := by
  unfold craneFieldsFaulty
  simp only [Bool.and_eq_true, within_iff, decide_eq_true_eq, Bool.not_eq_true', decide_eq_false_iff_not,
    Bool.and_eq_false_iff, not_or, not_and_or, Nat.not_lt, Nat.zero_le, true_and, and_assoc]

/-- The two ways to say that only enable and the levels change (R47). -/
theorem withLevels_eq_iff (c d : CraneConfig) : d.withLevels c = c ↔ sameButLevels c d := eq_comm

theorem State.badBearer_iff (s : State) (l : Link) (c : CraneConfig) : s.badBearer l c = true ↔
    c.enable = true ∧ (s.bearer c.bearer.toNat).treatment ≠ .crane l := by
  rw [State.badBearer, Bool.and_eq_true, Bool.not_eq_true', decide_eq_false_iff_not]

section
variable {s : State} {l : Link} {c : CraneConfig}

theorem craneTest_of_badBearer (h : c.enable = true) (hb : (s.bearer c.bearer.toNat).treatment ≠ .crane l) :
    craneTest l s c = .badValue :=
  if_pos ((s.badBearer_iff l c).2 ⟨h, hb⟩)

/-- The tests after that of the bearer (R46, R47). -/
theorem craneTest_of_bearer (h : c.enable = true → (s.bearer c.bearer.toNat).treatment = .crane l) :
    ((s.link l).state = .idle → craneTest l s c = .ok) ∧ ((s.link l).state ≠ .idle →
      (¬sameButLevels c (s.link l).config → craneTest l s c = .busy) ∧
      (sameButLevels c (s.link l).config →
        (c.enable = false → (s.link l).isHeld → craneTest l s c = .refused) ∧
        (c.enable = true ∨ ¬(s.link l).isHeld → craneTest l s c = .ok))) := by
  have hbearer : ¬s.badBearer l c = true := fun hb => ((s.badBearer_iff l c).1 hb).2 (h ((s.badBearer_iff l c).1 hb).1)
  have hsame : (!decide ((s.link l).config.withLevels c = c)) = true ↔ ¬sameButLevels c (s.link l).config := by
    rw [Bool.not_eq_true', decide_eq_false_iff_not, withLevels_eq_iff]
  refine ⟨fun hi => (if_neg hbearer).trans (if_pos hi), fun hi => ⟨fun hn =>
    (if_neg hbearer).trans ((if_neg hi).trans (if_pos (hsame.2 hn))), fun hs => ?_⟩⟩
  have htest : craneTest l s c = if (!c.enable &&
      decide ((s.link l).state = .hold ∨ (s.link l).state = .releasing)) = true then .refused else .ok :=
    (if_neg hbearer).trans ((if_neg hi).trans (if_neg fun hc => hsame.1 hc hs))
  rw [htest]
  refine ⟨fun he hh => if_pos ?_, fun ho => if_neg fun hc => ?_⟩
  · rw [he, Bool.not_false, Bool.true_and]
    exact decide_eq_true (p := (s.link l).state = .hold ∨ (s.link l).state = .releasing) hh
  · obtain ⟨he, hh⟩ := (Bool.and_eq_true _ _).mp hc
    rcases ho with ho | ho
    · rw [ho] at he
      exact Bool.false_ne_true he
    · exact ho (of_decide_eq_true (p := (s.link l).state = .hold ∨ (s.link l).state = .releasing) hh)

end

/-- A link that is disabled has its pending commit applied and enters IDLE (R49). -/
theorem enterIdle_eq (l : Link) (s : State) : enterIdle l s =
    ({ s with paths := if (s.link l).commitPending then s.paths.commit l else s.paths } : State).setLink l
      (s.link l).committed.idled := by
  unfold enterIdle
  simp only [applyPending_setLink, applyPending_link, if_true]

theorem workingRange_iff {s : State} {first count : Nat} (hr : first + count ≤ 16) :
    s.workingRange first count = true ↔
      ∃ l : Link, first ≤ l.val ∧ l.val < first + count ∧ (s.link l).state ≠ .idle := by
  rw [State.workingRange, List.any_eq_true]
  constructor
  · rintro ⟨k, hk, hs⟩
    have hk := List.mem_range.1 hk
    refine ⟨⟨first + k, by omega⟩, Nat.le_add_right .., Nat.add_lt_add_left hk first, ?_⟩
    rwa [Bool.not_eq_true', decide_eq_false_iff_not] at hs
  · rintro ⟨l, hf, hl, hs⟩
    refine ⟨l.val - first, List.mem_range.2 (by omega), ?_⟩
    rw [Nat.add_sub_cancel' hf, Bool.not_eq_true', decide_eq_false_iff_not]
    exact hs

end Sys2Proof.Machine

section
open Sys2Proof Sys2Proof.Machine

/-- Settles O23: the tests of a write in their order, and what each accepted one stores. -/
theorem craneWrites : Obligations.CraneWrites := by
  intro s h
  refine ⟨fun index f hi => ?_, fun f hf => if_neg fun hc => (craneFieldsSound_iff f).1 hc hf,
    fun f hf => if_pos ((craneFieldsSound_iff f).2 hf), fun l f => ?_, fun first count => ?_⟩
  · exact congrArg _ (runCommand_ruled h _ _ (dif_neg (by omega)))
  · intro k
    have hexec : exec (.writeCranes l.val f) s = .next (runCommand 3 0
        (fun s => writeEntry 16 l.val (readCrane f) (craneTest l s) (storeCrane l) s) s) :=
      congrArg (fun owner => Host.Outcome.next (runCommand 3 0 owner s)) (funext fun u => dif_pos l.isLt)
    refine ⟨fun hf => hexec.trans (congrArg _ (runCommand_write_unread h l.isLt hf)), fun c hc => ?_⟩
    have hrefused : ∀ {r : ResultCode}, craneTest l s c = r → r ≠ .ok →
        exec (.writeCranes l.val f) s = .next (s.ruled 3 r) := fun hr hn => by
      rw [hexec, runCommand_write_refused h l.isLt hc (by rw [hr]; exact hn), hr]
    have hstored : craneTest l s c = .ok →
        exec (.writeCranes l.val f) s = .next ((storeCrane l c s).ruled 3 .ok) := fun hr => by
      rw [hexec, runCommand_write_stored h l.isLt hc hr]
    refine ⟨fun he hb => hrefused (craneTest_of_badBearer he hb) (by decide), fun hb => ?_⟩
    obtain ⟨hidle, hwork⟩ := craneTest_of_bearer hb
    refine ⟨fun hi he => ?_, fun hi he => ?_, fun hi hn => hrefused ((hwork hi).1 hn) (by decide), fun hi hsame =>
      ⟨fun he => ?_, fun he hh => hrefused (((hwork hi).2 hsame).1 he hh) (by decide), fun he hh => ?_⟩⟩
    · rw [hstored (hidle hi), storeCrane, if_pos hi, he]
      rfl
    · rw [hstored (hidle hi), storeCrane, if_pos hi, he]
      rfl
    · rw [hstored (((hwork hi).2 hsame).2 (.inl he)), storeCrane, if_neg hi, if_pos he]
    · have hstore : storeCrane l c s = ({ s with
          paths := if k.commitPending then s.paths.commit l else s.paths } : State).setLink l
            ({ k with config := c } : CraneLink).committed.idled := by
        rw [storeCrane, if_neg hi, if_neg (by rw [he]; exact Bool.false_ne_true), enterIdle_eq]
        simp only [State.link_setLink, if_true]
        exact State.setLink_setLink { s with
          paths := if k.commitPending then s.paths.commit l else s.paths } l _ _
      refine ⟨_, hstored (((hwork hi).2 hsame).2 (.inr hh)), ?_, ?_, fun j hj => ?_, fun j g => ?_⟩ <;> rw [hstore]
      · exact congrArg (fun v : Paths => (({ s with paths := v } : State).setLink l
          ({ k with config := c } : CraneLink).committed.idled)) (Paths.pending_eq ..)
      · rw [State.link_setLink, if_pos rfl]
        rfl
      · rw [State.link_setLink, if_neg hj]
        rfl
      · exact Paths.get_pending ..
  · obtain ⟨hzero, hbeyond⟩ := runCommand_clear_range (s := s) (code := 4) (size := 0) (entries := 16)
      (first := first) (count := count) (test := fun s => if s.workingRange first count then .busy else .ok)
      (clear := clearCraneRange first count) h
    refine ⟨fun hc => congrArg _ (hzero hc), fun hc hb => congrArg _ (hbeyond hc hb), fun hc hr => ?_⟩
    obtain ⟨hrefused, hdone⟩ := runCommand_clear_tested (s := s) (code := 4) (size := 0)
      (test := fun s => if s.workingRange first count then .busy else .ok)
      (clear := clearCraneRange first count) h hc hr
    refine ⟨fun hw => ?_, fun hw =>
      ⟨clearCraneRange first count s, congrArg _ (hdone (if_neg ?_)), rfl, fun l => ?_⟩⟩
    · have htest : (if s.workingRange first count then ResultCode.busy else .ok) = .busy :=
        if_pos ((workingRange_iff hr).2 hw)
      rw [htest] at hrefused
      exact congrArg _ (hrefused (by decide))
    · rw [workingRange_iff hr]
      rintro ⟨l, hf, hl, hs⟩
      exact hs (hw l hf hl)
    · exact Table.get_modifyRange ..

end

/-! PROOFS. The capture commands, Statistics Clear, COLD_RESET and the writes of settings (O50, O58, O5, O54). -/

namespace Sys2Proof.Machine

/-! ### Capture Arm (R174) -/

/-- A crane state criterion as its code, 0 for none (R192). -/
def criterionCode (c : Option CraneState) : Nat := c.elim 0 craneStateCode

theorem craneCriterion_some {b : Byte} {c : Option CraneState} (h : craneCriterion b = some c) :
    criterionCode c = b.toNat := by
  unfold craneCriterion at h
  split at h <;> cases h <;> simp [criterionCode, craneStateCode, *]

theorem craneCriterion_isSome {b : Byte} (h : b.toNat ≤ 6) : ∃ c, craneCriterion b = some c := by
  unfold craneCriterion
  generalize b.toNat = n at h
  interval_cases n <;> exact ⟨_, rfl⟩

theorem criterionCode_le (c : Option CraneState) : criterionCode c ≤ 6 := by
  cases c with
  | none => exact Nat.zero_le _
  | some k => cases k <;> decide

theorem modeField_some {b : Byte} {m : CaptureMode} (h : modeField b = some m) : captureModeCode m = b.toNat := by
  unfold modeField at h
  split at h <;> cases h <;> simp [captureModeCode, *]

theorem modeField_isSome {b : Byte} (h1 : 1 ≤ b.toNat) (h2 : b.toNat ≤ 6) : ∃ m, modeField b = some m := by
  unfold modeField
  generalize b.toNat = n at h1 h2
  interval_cases n <;> exact ⟨_, rfl⟩

theorem byte_flag_cases (b : Byte) : b = 0 ∨ b = 1 ∨ 1 < b.toNat := by bv_omega

/-- A matcher direction as carried, 0 for none (R165). -/
theorem directionField_some {b : Byte} {d : Option Direction}
    (h : (if b = 0 then some none else (directionOf b.toNat).map some) = some d) : directionCode d = b.toNat := by
  split at h
  next hb => subst hb; cases h; rfl
  next hb =>
    unfold directionOf at h
    split at h
    next h1 => cases h; rw [h1]; rfl
    next h1 =>
      split at h
      next h2 => cases h; rw [h2]; rfl
      next => cases h

theorem directionField_isSome {b : Byte} (h : b.toNat ≤ 2) :
    ∃ d, (if b = 0 then some none else (directionOf b.toNat).map some) = some d := by
  by_cases h0 : b = 0
  · exact ⟨_, if_pos h0⟩
  · rw [if_neg h0, directionOf]
    by_cases h1 : b.toNat = 1
    · exact ⟨_, by rw [if_pos h1]; rfl⟩
    · exact ⟨_, by rw [if_neg h1, if_pos (by bv_omega)]; rfl⟩

theorem matcherFlag_some {b : Byte} {v : Bool}
    (h : (if b = 0 then some false else if b = 1 then some true else none) = some v) :
    v = decide (b = 1) ∧ b.toNat ≤ 1 := by
  split at h
  next h0 => subst h0; cases h; decide
  next =>
    split at h
    next h1 => subst h1; cases h; decide
    next => cases h

/-- What is read of a matcher is in range and holds what was carried (R165, R174). -/
theorem readMatcher_some {f : MatcherFields} {m : Matcher} (h : readMatcher f = some m) :
    ¬matcherFaulty f ∧ matcherLoaded f m := by
  simp only [readMatcher, Option.bind_eq_bind, Option.bind_eq_some_iff] at h
  obtain ⟨crane, hc, enable, he, dir, hd, h⟩ := h
  have hcrane := craneCriterion_some hc
  have hdir := directionField_some hd
  obtain ⟨rfl, hflag⟩ := matcherFlag_some he
  split at h
  next hr =>
    cases h
    simp only [Bool.and_eq_true, within_iff, decide_eq_true_eq] at hr
    have h6 := criterionCode_le crane
    have h2 : directionCode dir ≤ 2 := by
      cases dir with
      | none => decide
      | some d => cases d <;> decide
    refine ⟨by unfold matcherFaulty; omega, rfl, rfl, hdir, rfl, rfl, rfl, rfl, ?_⟩
    rw [← hcrane]
    cases crane <;> rfl
  next => cases h

theorem strays_zero (field : StrayField) : strays field 0 = false := rfl

theorem readMatcher_isSome {f : MatcherFields} (h : ¬matcherFaulty f) (hc : matcherClean f) :
    ∃ m, readMatcher f = some m := by
  unfold matcherFaulty at h
  obtain ⟨hport, hkind, hdisp⟩ := hc
  obtain ⟨crane, hcrane⟩ := craneCriterion_isSome (b := f.craneState) (by omega)
  obtain ⟨dir, hdir⟩ := directionField_isSome (b := f.direction) (by omega)
  obtain ⟨enable, henable⟩ : ∃ v,
      (if f.enable = 0 then some false else if f.enable = 1 then some true else none) = some v := by
    rcases byte_flag_cases f.enable with he | he | he
    · exact ⟨_, if_pos he⟩
    · exact ⟨_, by rw [he]; rfl⟩
    · omega
  have hport : (f.portMask >>> 5).toNat = 0 := by bv_omega
  have hkind : (f.kindMask >>> 6).toNat = 0 := by bv_omega
  have hdisp : (f.dispositionMask >>> 15).toNat = 0 := by bv_omega
  have hrange : (decide (f.lo.toNat ≤ f.hi.toNat) && within 0 4095 f.hi.toNat) = true := by
    simp only [Bool.and_eq_true, within_iff, decide_eq_true_eq]
    omega
  simp only [readMatcher, hcrane, henable, hdir, hport, hkind, hdisp, strays_zero, Bool.not_false, Bool.and_true,
    hrange, Option.bind_eq_bind, Option.bind_some]
  exact ⟨_, rfl⟩

theorem CaptureMode.needsA_iff (m : CaptureMode) : m.needsA = true ↔
    captureModeCode m = 1 ∨ captureModeCode m = 5 ∨ captureModeCode m = 4 := by
  cases m <;> decide

theorem CaptureMode.needsB_iff (m : CaptureMode) : m.needsB = true ↔
    captureModeCode m = 2 ∨ captureModeCode m = 3 ∨ captureModeCode m = 4 := by
  cases m <;> decide

theorem captureModeCode_range (m : CaptureMode) : 1 ≤ captureModeCode m ∧ captureModeCode m ≤ 6 := by
  cases m <;> decide

/-- What is read of a capture configuration is in range and holds what was carried (R174). -/
theorem readCapture_some {f : CaptureFields} {c : CaptureConfig} (h : readCapture f = some c) :
    ¬captureFaulty f ∧ matcherLoaded f.a c.a ∧ matcherLoaded f.b c.b ∧ captureModeCode c.mode = f.mode.toNat ∧
      c.n = f.n.toNat ∧ c.post = f.post.toNat ∧ c.matchedOnly = decide (f.filter = 1) := by
  simp only [readCapture, Option.bind_eq_bind, Option.bind_eq_some_iff] at h
  obtain ⟨a, ha, b, hb, mode, hm, only, ho, h⟩ := h
  obtain ⟨hfa, hla⟩ := readMatcher_some ha
  obtain ⟨hfb, hlb⟩ := readMatcher_some hb
  have hmode := modeField_some hm
  obtain ⟨rfl, hfilter⟩ := matcherFlag_some ho
  split at h
  next => cases h
  next hn =>
    cases h
    refine ⟨?_, hla, hlb, hmode, rfl, rfl, rfl⟩
    have hrange := captureModeCode_range mode
    have hA := mode.needsA_iff
    have hB := mode.needsB_iff
    simp only [Bool.or_eq_true, Bool.and_eq_true, Bool.not_eq_true', decide_eq_true_eq, not_or, hla.1, hlb.1,
      decide_eq_false_iff_not] at hn
    obtain ⟨⟨hn, hna⟩, hnb⟩ := hn
    rintro (hc | hc | hc | hc | hc | hc | ⟨hc, he⟩ | ⟨hc, he⟩)
    · exact hfa hc
    · exact hfb hc
    · omega
    · omega
    · omega
    · exact hn hc
    · refine hna ⟨hA.2 ?_, by rw [he]; decide⟩
      rw [hmode]
      rcases hc with hc | hc | hc <;> simp [hc]
    · refine hnb ⟨hB.2 ?_, by rw [he]; decide⟩
      rw [hmode]
      rcases hc with hc | hc | hc <;> simp [hc]

theorem readCapture_isSome {f : CaptureFields} (h : ¬captureFaulty f) (ha : matcherClean f.a) (hb : matcherClean f.b) :
    ∃ c, readCapture f = some c := by
  unfold captureFaulty at h
  simp only [not_or, Nat.not_lt, not_and] at h
  obtain ⟨hfa, hfb, hm1, hm6, hfilter, hn, hea, heb⟩ := h
  obtain ⟨a, hra⟩ := readMatcher_isSome hfa ha
  obtain ⟨b, hrb⟩ := readMatcher_isSome hfb hb
  obtain ⟨mode, hrm⟩ := modeField_isSome hm1 hm6
  obtain ⟨only, hro⟩ : ∃ v,
      (if f.filter = 0 then some false else if f.filter = 1 then some true else none) = some v := by
    rcases byte_flag_cases f.filter with he | he | he
    · exact ⟨_, if_pos he⟩
    · exact ⟨_, by rw [he]; rfl⟩
    · omega
  have henabled : ∀ {g : MatcherFields} {m : Matcher}, readMatcher g = some m → g.enable ≠ 0 → m.enable = true :=
    fun {g m} hm h0 => by
      obtain ⟨hg, hload⟩ := readMatcher_some hm
      unfold matcherFaulty at hg
      rw [hload.1, decide_eq_true_eq]
      rcases byte_flag_cases g.enable with he | he | he
      · exact absurd he h0
      · exact he
      · omega
  have hcode := modeField_some hrm
  have hneeds : ¬(decide (f.n = 0) || mode.needsA && !a.enable || mode.needsB && !b.enable) = true := by
    simp only [Bool.or_eq_true, Bool.and_eq_true, Bool.not_eq_true', decide_eq_true_eq, not_or, not_and,
      Bool.not_eq_false]
    refine ⟨⟨hn, fun h => henabled hra (hea ?_)⟩, fun h => henabled hrb (heb ?_)⟩
    · rw [mode.needsA_iff, hcode] at h
      bv_omega
    · rw [mode.needsB_iff, hcode] at h
      bv_omega
  simp only [readCapture, hra, hrb, hrm, hro, Option.bind_eq_bind, Option.bind_some]
  rw [if_neg hneeds]
  exact ⟨_, rfl⟩

end Sys2Proof.Machine

section
open Sys2Proof Sys2Proof.Machine

/-- Settles O50: an Arm is judged by what is read of it. -/
theorem captureCommands : Obligations.CaptureCommands := by
  intro s h u code
  refine ⟨fun f hf => ?_, fun f hf ha hb => ?_, ?_, ?_⟩
  · have hread : readCapture f = none := by
      cases hc : readCapture f with
      | none => rfl
      | some c => exact absurd hf (readCapture_some hc).1
    refine congrArg _ (runCommand_ruled h 9 0 ?_)
    rw [armCapture, hread]
  · obtain ⟨c, hc⟩ := readCapture_isSome hf ha hb
    obtain ⟨-, hload⟩ := readCapture_some hc
    refine ⟨c, congrArg _ (runCommand_ruled h 9 0 ?_), hload⟩
    rw [armCapture, hc]
    rfl
  · exact congrArg _ (runCommand_alone h ..)
  · refine (congrArg _ (runCommand_alone h ..)).trans ?_
    have hcode : captureStateCode u.state = code := by
      simp only [code]
      cases u.state <;> rfl
    rw [← hcode]
    rfl

/-- Settles O58: each record has its counters at 0 and the rest as it was. -/
theorem statisticsCleared : Obligations.StatisticsCleared := by
  intro s h
  refine ⟨clearStatistics s, congrArg _ (runCommand_ruled (t := clearStatistics s) (r := .ok) h 8 0 rfl),
    rfl, fun i => ?_, fun p => rfl, fun p => ?_,
    fun p c => ?_, fun l => ?_, fun i => ?_⟩
  all_goals exact Table.get_map ..

/-- Settles O5: each value of the cold state is read off it. -/
theorem coldResetGivesColdValues : Obligations.ColdResetGivesColdValues := by
  intro s
  have hcold : ∀ i < 54, (State.cold s.identity).setting i = Settings.coldValue s.identity i := fun i hi =>
    Settings.get_cold s.identity hi
  refine ⟨{ State.cold s.identity with pending := s.pending }, rfl, rfl, rfl, rfl, rfl, hcold 0 (by decide),
    hcold 1 (by decide), fun p c => ?_, fun p => ⟨?_, ?_, ?_⟩, ?_, ?_⟩
  · obtain ⟨h1, h2⟩ := limitIndex_range p c
    refine (hcold (limitIndex p c) (by omega)).trans ?_
    exact (if_neg (by omega)).trans ((if_neg (by omega)).trans (if_pos h2))
  · exact (hcold _ (by cases p <;> decide)).trans (by cases p <;> rfl)
  · exact (hcold _ (by cases p <;> decide)).trans (by cases p <;> rfl)
  · exact (hcold _ (by cases p <;> decide)).trans (by cases p <;> rfl)
  · exact (List.map_congr_left fun i hi => hcold i (by simp at hi; omega)).trans rfl
  · refine ⟨fun _ => rfl, fun _ => rfl, fun _ => rfl, fun _ => rfl, fun _ _ => rfl, rfl, rfl, rfl, fun _ => rfl,
      fun _ => rfl, fun _ => ⟨rfl, rfl⟩, fun _ => rfl, rfl, fun _ => rfl, fun _ => rfl, rfl, rfl, rfl, rfl,
      fun _ => rfl, rfl⟩

end

/-! PROOFS. Writes of settings (O54). -/

namespace Sys2Proof.Machine

theorem guarded_of_refused {code r : ResultCode} (hr : code = r) (hn : r ≠ .ok) (effect : State → State) (s : State) :
    guarded code effect s = (ruling r, s) := by
  subst hr
  exact if_neg hn

theorem guarded_of_ok {code : ResultCode} (h : code = .ok) (effect : State → State) (s : State) :
    guarded code effect s = (ruling .ok, effect s) :=
  if_pos h

/-! ### The judgement of a setting (R187) -/

theorem exec_settingWrite {c : Instr} {i v : Nat} (h : settingOf c = some (i, v)) (s : State) :
    exec c s = .next (runCommand 3 0 (writeSetting i v) s) := by
  cases c <;> cases h <;> rfl

/-- The indices 2 to 21 are those of the limits of the queues. -/
theorem exists_limitIndex {i : Nat} (h1 : 2 ≤ i) (h2 : i < 22) : ∃ p c, limitIndex p c = i := by
  have hport : ∀ n < 5, portNumber (portOf n) = n := by decide
  refine ⟨portOf ((i - 2) / 4), ⟨(i - 2) % 4, Nat.mod_lt _ (by decide)⟩, ?_⟩
  rw [limitIndex, hport _ (by omega)]
  simp only
  omega

section
variable {s : State} {i v : Nat}

theorem settingCode_beyond (h : 53 < i) : settingCode s i v = .badIndex := if_pos h

/-- A value fits its setting: the range of the table of 10.5, and the bearer type's forbidden value. -/
def State.settingFits (s : State) (i v : Nat) : Prop :=
  (settingRange i).1 ≤ v ∧ v ≤ (settingRange i).2 ∧ (i = 0 → v ≠ s.identity.managementEtherType.toNat)

theorem settingCode_of_unfit (h : i ≤ 53) (hf : ¬s.settingFits i v) : settingCode s i v = .badValue := by
  refine (if_neg (Nat.not_lt.2 h)).trans ?_
  by_cases hr : within (settingRange i).1 (settingRange i).2 v = true
  · obtain ⟨hlo, hhi⟩ := within_iff.1 hr
    have h0 : i = 0 ∧ v = s.identity.managementEtherType.toNat := by
      by_contra hn
      exact hf ⟨hlo, hhi, fun hi hv => hn ⟨hi, hv⟩⟩
    exact (if_neg (by rw [hr]; decide)).trans (if_pos h0)
  · exact if_pos (by rw [Bool.not_eq_true', ← Bool.not_eq_true]; exact hr)

theorem settingCode_of_fit (h : i ≤ 53) (hf : s.settingFits i v) :
    settingCode s i v = if 2 ≤ i ∧ i < 22 ∧ v < limitLength s i then .busy else .ok := by
  obtain ⟨hlo, hhi, h0⟩ := hf
  refine (if_neg (Nat.not_lt.2 h)).trans ((if_neg ?_).trans (if_neg fun hc => h0 hc.1 hc.2))
  rw [within_iff.2 ⟨hlo, hhi⟩]
  decide

/-- A limit leaves room for the frames that wait in its queue (R34). -/
theorem limit_room_iff : ¬(2 ≤ i ∧ i < 22 ∧ v < limitLength s i) ↔
    ∀ p k, i = 2 + 4 * portNumber p + k.val → (s.store.queue p k).entries.length ≤ v := by
  constructor
  · intro h p k hi
    have hi : i = limitIndex p k := hi
    obtain ⟨h1, h2⟩ := limitIndex_range p k
    rw [← limitLength_limitIndex, ← hi]
    omega
  · rintro h ⟨h1, h2, h3⟩
    obtain ⟨p, k, rfl⟩ := exists_limitIndex h1 h2
    rw [limitLength_limitIndex] at h3
    exact Nat.not_lt.2 (h p k rfl) h3

/-! ### What an accepted write stores -/

theorem storeSetting_other (h1 : i ≠ 48) (h2 : ¬(i = 50 ∧ s.setting 50 < v)) (h3 : ¬(i = 52 ∧ v ≠ 0)) :
    storeSetting i v s = { s with settings := s.settings.set i v } := by
  unfold storeSetting
  split
  · exact absurd rfl h1
  · exact if_neg fun hc => h2 ⟨rfl, hc⟩
  · exact if_pos (by by_contra hc; exact h3 ⟨rfl, hc⟩)
  · rfl

end

end Sys2Proof.Machine

section
open Sys2Proof Sys2Proof.Machine

/-- Settles O54: index, value and room are judged in their order, and the index gives the effect. -/
theorem settingsWritten : Obligations.SettingsWritten := by
  refine ⟨rfl, fun c i v s hc h => ?_⟩
  intro stored fits room
  have hrefused : ∀ {r : ResultCode}, settingCode s i v = r → r ≠ .ok → exec c s = .next (s.ruled 3 r) := fun hr hn => by
    rw [exec_settingWrite hc]
    exact congrArg _ (runCommand_ruled h 3 0 (guarded_of_refused hr hn ..))
  refine ⟨fun hi => hrefused (settingCode_beyond hi) (by decide), fun hi hf =>
    hrefused (settingCode_of_unfit hi hf) (by decide), fun hi hf hr =>
    hrefused ((settingCode_of_fit hi hf).trans (if_pos ?_)) (by decide), fun hi hf hr => ?_⟩
  · by_contra hn
    exact hr (limit_room_iff.1 hn)
  · have hcode : settingCode s i v = .ok :=
      (settingCode_of_fit hi hf).trans (if_neg (limit_room_iff.2 hr))
    rw [exec_settingWrite hc]
    refine congrArg _ ((runCommand_ruled h 3 0 (guarded_of_ok hcode ..)).trans (congrArg (State.ruled · 3 .ok) ?_))
    by_cases h48 : i = 48
    · subst h48
      rfl
    by_cases h50 : i = 50 ∧ s.setting 50 < v
    · obtain ⟨rfl, hv⟩ := h50
      exact (if_pos hv).trans (if_pos ⟨rfl, hv⟩).symm
    by_cases h52 : i = 52 ∧ v ≠ 0
    · obtain ⟨rfl, hv⟩ := h52
      exact (if_neg hv).trans (if_pos (⟨rfl, hv⟩ : (52 : Nat) = 52 ∧ v ≠ 0)).symm
    · rw [storeSetting_other h48 h50 h52, if_neg h48, if_neg h50, if_neg h52]

end

/-! PROOFS. Writes of entries on the tables other than SETTINGS and CRANES (O55). -/

namespace Sys2Proof.Machine

/-! ### Cell and segment fields (R192) -/

section
variable {b : Byte}

theorem cellField_some {c : Option Cell} (h : cellField b = some c) : ¬(31 < b.toNat ∧ b ≠ 255) ∧ putCell c = [b] := by
  unfold cellField at h
  split at h
  next hb => subst hb; cases h; exact ⟨fun hc => hc.2 rfl, rfl⟩
  next =>
    split at h
    next hb => cases h; exact ⟨fun hc => by omega, by simp [putCell, put8]⟩
    next => cases h

theorem cellField_of_bad (h1 : 31 < b.toNat) (h2 : b ≠ 255) : cellField b = none := by
  cases h : cellField b with
  | none => rfl
  | some c => exact absurd ⟨h1, h2⟩ (cellField_some h).1

theorem cellField_isSome (h : ¬(31 < b.toNat ∧ b ≠ 255)) : ∃ c, cellField b = some c := by
  unfold cellField
  by_cases hb : b = 255
  · exact ⟨_, if_pos hb⟩
  · exact ⟨_, (if_neg hb).trans (dif_pos (by by_contra hc; exact h ⟨by omega, hb⟩))⟩

theorem byte_of_put8 {n : Nat} (hn : n < 256) (h : put8 n = [b]) : b.toNat = n := by
  cases h
  rw [BitVec.toNat_ofNat]
  omega

theorem cellField_of_putCell {c : Option Cell} (h : putCell c = [b]) : cellField b = some c := by
  cases c with
  | none => cases h; rfl
  | some c =>
    have hb := byte_of_put8 (by omega) h
    refine (if_neg fun h255 => ?_).trans ((dif_pos (by omega)).trans (by simp only [hb]))
    rw [h255] at hb
    have hval : (255 : Byte).toNat = 255 := rfl
    omega

theorem segmentField_some {g : Option Segment} (h : segmentField b = some g) :
    ¬(63 < b.toNat ∧ b ≠ 255) ∧ putSegment g = [b] := by
  unfold segmentField at h
  split at h
  next hb => subst hb; cases h; exact ⟨fun hc => hc.2 rfl, rfl⟩
  next =>
    split at h
    next hb => cases h; exact ⟨fun hc => by omega, by simp [putSegment, put8]⟩
    next => cases h

theorem segmentField_of_bad (h1 : 63 < b.toNat) (h2 : b ≠ 255) : segmentField b = none := by
  cases h : segmentField b with
  | none => rfl
  | some g => exact absurd ⟨h1, h2⟩ (segmentField_some h).1

theorem segmentField_isSome (h : ¬(63 < b.toNat ∧ b ≠ 255)) : ∃ g, segmentField b = some g := by
  unfold segmentField
  by_cases hb : b = 255
  · exact ⟨_, if_pos hb⟩
  · exact ⟨_, (if_neg hb).trans (dif_pos (by by_contra hc; exact h ⟨by omega, hb⟩))⟩

theorem segmentField_of_putSegment {g : Option Segment} (h : putSegment g = [b]) : segmentField b = some g := by
  cases g with
  | none => cases h; rfl
  | some g =>
    have hb := byte_of_put8 (by omega) h
    refine (if_neg fun h255 => ?_).trans ((dif_pos (by omega)).trans (by simp only [hb]))
    rw [h255] at hb
    have hval : (255 : Byte).toNat = 255 := rfl
    omega

end

/-! ### BEARERS (R18 to R20) -/

section
variable {f : BearerFields}

/-- A treatment is read of the kinds of R18, its own field in range. -/
theorem readTreatment_some {g : Option Segment} {t : Treatment} (h : readTreatment f g = some t) :
    f.kind.toNat ≤ 4 ∧ (f.kind.toNat = 2 → f.special.toNat ≤ 15) ∧ (f.kind.toNat = 3 → f.special.toNat ≤ 2047) ∧
      (f.kind.toNat = 4 → f.special.toNat ≤ 4095) := by
  unfold readTreatment at h
  split at h
  case h_1 => omega
  case h_2 => omega
  case h_6 => cases h
  all_goals
    split at h
    · omega
    · cases h

/-- A kind with no stray bits in its own field, and that field in range, is read. -/
theorem readTreatment_isSome (g : Option Segment) (hk : f.kind.toNat ≤ 4) (h2 : f.kind.toNat = 2 → f.special.toNat ≤ 15)
    (h3 : f.kind.toNat = 3 → f.special.toNat ≤ 2047) (h4 : f.kind.toNat = 4 → f.special.toNat ≤ 4095)
    (hc : f.kind.toNat ≤ 1 → f.special = 0) : ∃ t, readTreatment f g = some t := by
  unfold readTreatment
  generalize f.kind.toNat = k at hk h2 h3 h4 hc
  interval_cases k
  · rw [hc (by decide)]
    exact ⟨_, rfl⟩
  · rw [hc (by decide)]
    exact ⟨_, rfl⟩
  · exact ⟨_, dif_pos (by omega)⟩
  · exact ⟨_, dif_pos (by omega)⟩
  · exact ⟨_, if_pos (by omega)⟩

/-- What is read of a Write Entry on BEARERS is in range (R18). -/
theorem readBearer_some {d : Descriptor} (h : readBearer f = some d) : ¬bearerFieldsFaulty f := by
  simp only [readBearer, Option.bind_eq_bind, Option.bind_eq_some_iff] at h
  obtain ⟨home, hhome, segment, hsegment, t, ht, h⟩ := h
  have hcell := (cellField_some hhome).1
  obtain ⟨hseg, hput⟩ := segmentField_some hsegment
  obtain ⟨hkind, h2, h3, h4⟩ := readTreatment_some ht
  have hnone : segment = none → f.segment = 255 := fun e => by
    subst e
    exact (List.singleton_injective hput).symm
  split at h
  next => cases h
  next hr =>
    simp only [Bool.or_eq_true, Bool.and_eq_true, Bool.not_eq_true', decide_eq_true_eq, decide_eq_false_iff_not,
      not_or, Bool.not_eq_false, within_iff, not_and, not_not, Bool.not_eq_true, Option.isSome_eq_false_iff,
      Option.isNone_iff_eq_none] at hr
    obtain ⟨⟨⟨⟨⟨-, hrate⟩, hburst, -⟩, hcrane⟩, hgeneral⟩, -⟩ := hr
    rintro (hf | hf | hf | hf | hf | ⟨hk, hf⟩ | ⟨hk, hf⟩ | ⟨hk, hf⟩ | ⟨hk, hf⟩)
    · omega
    · omega
    · rw [hf] at hburst
      cases hburst
    · exact hcell hf
    · exact hseg hf
    · obtain ⟨hcls, hdemote⟩ := hcrane hk
      rcases hf with hf | hf | hf
      · exact hf hcls
      · rw [hf] at hdemote
        cases hdemote
      · have := h2 (by rw [hk]; rfl)
        omega
    · have := h3 (by rw [hk]; rfl)
      omega
    · have := h4 (by rw [hk]; rfl)
      omega
    · exact hf (hnone (hgeneral hk))

theorem readBearer_isSome (h : ¬bearerFieldsFaulty f) (hc : bearerFieldsClean f) : (readBearer f).isSome := by
  simp only [bearerFieldsFaulty, not_or, Nat.not_lt, not_and, not_not] at h
  obtain ⟨hkind, hrate, hburst, hcell, hseg, hcrane, h3, h4, hgeneral⟩ := h
  obtain ⟨hspecial, habsorb⟩ := hc
  obtain ⟨home, hhome⟩ := cellField_isSome fun e => e.2 (hcell e.1)
  obtain ⟨segment, hsegment⟩ := segmentField_isSome fun e => e.2 (hseg e.1)
  obtain ⟨t, ht⟩ := readTreatment_isSome (f := f) segment hkind (fun e => (hcrane (by bv_omega)).2.2)
    (fun e => h3 (by bv_omega)) (fun e => h4 (by bv_omega)) (fun e => hspecial (by bv_omega))
  have hnone : ¬f.kind = 1 → segment = none := fun e => by
    rw [hgeneral e] at hsegment
    cases hsegment
    rfl
  have hrange : ¬(!within 0 4095 f.rate.toNat || !within 1 255 f.burst.toNat ||
      (decide (f.kind = 2) && (!decide (f.cls = 0) || f.demote)) || (!decide (f.kind = 1) && segment.isSome) ||
      (!decide (f.kind = 3) && strays .absorb f.absorb.toNat)) = true := by
    simp only [Bool.or_eq_true, Bool.and_eq_true, Bool.not_eq_true', decide_eq_true_eq, decide_eq_false_iff_not,
      not_or, Bool.not_eq_false, within_iff, not_and, not_not, Bool.not_eq_true, Option.isSome_eq_false_iff,
      Option.isNone_iff_eq_none]
    refine ⟨⟨⟨⟨⟨Nat.zero_le _, hrate⟩, by bv_omega, by omega⟩, fun e => ?_⟩, hnone⟩, fun e => ?_⟩
    · obtain ⟨hcls, hdemote, -⟩ := hcrane e
      exact ⟨hcls, Bool.not_eq_true _ ▸ hdemote⟩
    rw [habsorb e]
    rfl
  simp only [readBearer, hhome, hsegment, ht, Option.bind_eq_bind, Option.bind_some]
  rw [if_neg hrange]
  split <;> rfl

end

section
variable {s : State} {i : Nat} {d : Descriptor}

theorem badTarget_iff : s.badTarget i d.treatment = true ↔ s.misdirects i d := by
  unfold State.badTarget State.misdirects
  cases ht : d.treatment with
  | redirect target =>
    simp only [Bool.or_eq_true, decide_eq_true_eq, or_assoc, Treatment.redirect.injEq, exists_eq_left']
    refine or_congr_right (or_congr_right ?_)
    cases (s.bearer target.toNat).treatment <;> simp
  | _ => simp

/-- Where the descriptor redirects as it may, an engaged bearer is BUSY (R18 step 2, R20). -/
theorem bearerTest_cases (s : State) (i : Nat) (d : Descriptor) :
    (s.misdirects i d → bearerTest i s d = .badValue) ∧ (¬s.misdirects i d →
      (s.engaged (s.bearer i).treatment ∨ s.engaged d.treatment → bearerTest i s d = .busy) ∧
      (¬s.engaged (s.bearer i).treatment → ¬s.engaged d.treatment → bearerTest i s d = .ok)) := by
  refine ⟨fun h => if_pos (badTarget_iff.2 h), fun h => ⟨fun he => (if_neg fun hb => h (badTarget_iff.1 hb)).trans
    (if_pos ?_), fun h1 h2 => (if_neg fun hb => h (badTarget_iff.1 hb)).trans (if_neg ?_)⟩⟩
  · rw [Bool.or_eq_true, s.engages_iff, s.engages_iff]
    exact he
  · rw [Bool.or_eq_true, s.engages_iff, s.engages_iff]
    exact fun he => he.elim h1 h2

end

theorem exec_writeBearers {i : Nat} (hi : i ≠ 0) (f : BearerFields) (s : State) :
    exec (.writeBearers i f) s = .next (runCommand 3 0 (fun s => writeEntry 4096 i (readBearer f) (bearerTest i s)
      (fun d s => s.setBearer i (d.written s.quayTime)) s) s) :=
  congrArg (fun owner => Host.Outcome.next (runCommand 3 0 owner s)) (funext fun _ => if_neg hi)

/-! ### PROFILES (R113) -/

theorem edgeField_isSome_iff {b : Byte} : (edgeField b).isSome = true ↔ b.toNat ≤ 3 := by
  unfold edgeField
  generalize b.toNat = n
  by_cases h : n ≤ 3
  · interval_cases n <;> decide
  · have hnone : n ≠ 0 ∧ n ≠ 1 ∧ n ≠ 2 ∧ n ≠ 3 := by omega
    simp [h, hnone]

/-- A profile is read exactly when no field is faulty (R113). -/
theorem readProfile_isSome_iff (f : ProfileFields) : (readProfile f).isSome = true ↔ ¬profileFaulty f := by
  have hbind : ∀ {α β : Type} (o : Option α) (g : α → Option β),
      (o.bind g).isSome = true ↔ ∃ a, o = some a ∧ (g a).isSome = true := fun o g => by
    cases o <;> simp
  have hif : ∀ (P : Prop) [Decidable P], ((if P then true else false) = true) ↔ P := fun P _ => by simp
  have hedge : ∀ {b : Byte} {P : Prop}, (∃ e, edgeField b = some e ∧ P) ↔ b.toNat ≤ 3 ∧ P := fun {b P} => by
    rw [← edgeField_isSome_iff, Option.isSome_iff_exists]
    simp
  unfold readProfile profileFaulty
  simp only [Option.bind_eq_bind, hbind, apply_ite Option.isSome, Option.isSome_some, Option.isSome_none, hedge, hif,
    Bool.and_eq_true, within_iff, decide_eq_true_eq]
  omega

/-! ### REEFERS (R134) -/

theorem markCharacter_iff {b : Byte} : markCharacter b = true ↔
    ¬(¬(0x41 ≤ b.toNat ∧ b.toNat ≤ 0x5A) ∧ ¬(0x30 ≤ b.toNat ∧ b.toNat ≤ 0x39)) := by
  rw [markCharacter, Bool.or_eq_true, within_iff, within_iff]
  tauto

theorem mark_all_iff {mark : List Byte} : mark.all markCharacter = true ↔ ¬markFaulty mark := by
  rw [List.all_eq_true, markFaulty]
  simp only [markCharacter_iff, not_exists, not_and]

theorem readReefer_eq_none {f : ReeferFields}
    (h : markFaulty f.mark ∨ 15 < f.profile.toNat ∨ (63 < f.segment.toNat ∧ f.segment ≠ 255)) :
    readReefer f = none := by
  cases hc : readReefer f with
  | none => rfl
  | some c =>
    simp only [readReefer, Option.bind_eq_bind, Option.bind_eq_some_iff] at hc
    obtain ⟨_, -, g, hg, hc⟩ := hc
    split at hc
    next hp =>
      split at hc
      next hm => exact (h.elim (mark_all_iff.1 hm) fun h => h.elim (fun h => by omega) (segmentField_some hg).1).elim
      next => cases hc
    next => cases hc

/-- But for its registered flag, a sound Write Entry on REEFERS is read as it was carried (R134). -/
theorem readReefer_of_sound {f : ReeferFields} (hm : ¬markFaulty f.mark) {p : Fin 16} (hp : f.profile.toNat = p.val)
    {g : Option Segment} (hg : putSegment g = [f.segment]) :
    readReefer f = (flagField f.registered).map fun r =>
      { registered := r, mark := f.mark, profile := p, segment := g } := by
  have hprofile : (⟨f.profile.toNat, by omega⟩ : Fin 16) = p := Fin.ext hp
  simp only [readReefer, segmentField_of_putSegment hg, Option.bind_eq_bind, Option.bind_some]
  cases flagField f.registered with
  | none => rfl
  | some r =>
    simp only [Option.bind_some, Option.map_some]
    rw [dif_pos (by omega), if_pos (mark_all_iff.2 hm), hprofile]

/-- The change list without one slot (R112, R134). -/
theorem dropChanged_one (list : List Slot) (i : Nat) :
    dropChanged list i 1 = list.filter fun k => decide (k.val ≠ i) := by
  refine List.filter_congr fun k _ => ?_
  rw [Bool.eq_iff_iff]
  simp only [Bool.not_eq_true', Bool.and_eq_false_iff, decide_eq_false_iff_not, decide_eq_true_eq]
  omega

end Sys2Proof.Machine

section
open Sys2Proof Sys2Proof.Machine

/-- Settles O55: index, fields and the tests of the table are judged in their order, and an accepted write stores the
entry that was read. -/
theorem entriesWritten : Obligations.EntriesWritten := by
  intro s h
  refine ⟨fun i a => ⟨fun hi => ?_, fun hi => ?_⟩, fun i f => ?_, fun i g => ⟨fun hi => ?_, fun hi h1 h2 => ?_,
    fun hi hg => ?_, fun k hi hg => ?_⟩, fun f hf => ?_, fun f hf hc => readBearer_isSome hf hc,
    fun i f => ⟨fun hi => ?_, fun h1 h2 => ?_⟩, fun i p a => ?_, fun i f => ⟨fun hi => ?_, fun hi hf => ?_,
    fun hi hf => ?_⟩, fun i f => ?_, fun i => congrArg _ (runCommand_ruled h _ _ rfl)⟩
  · exact congrArg _ (runCommand_write_beyond (test := fun _ _ => .ok) h hi)
  · exact congrArg _ (runCommand_write_stored (test := fun _ _ => .ok) h hi rfl rfl)
  · intro stored
    refine ⟨fun hi => congrArg _ (runCommand_write_beyond (test := fun _ _ => .ok) h hi), fun hi hq =>
      congrArg _ (runCommand_write_unread (test := fun _ _ => .ok) h hi (dif_neg (by omega))), fun hi q hq => ?_⟩
    have hquay : (⟨f.quayPort.toNat, by omega⟩ : Fin 4) = q := Fin.ext hq
    have hread : readCell f = (flagField f.present).map fun p => (p, q, f.label) := by
      rw [← hquay]
      exact dif_pos (by omega)
    have hstored : ∀ {b}, flagField f.present = some b → exec (.writeCells i f) s = stored q b := fun {b} hb => by
      have hsome : readCell f = some (b, q, f.label) := by rw [hread, hb]; rfl
      exact congrArg _ (runCommand_write_stored (test := fun _ _ => .ok) h hi hsome rfl)
    refine ⟨fun h0 => hstored (if_pos h0), fun h1 => hstored (by rw [h1]; rfl), ?_⟩
    cases hb : flagField f.present with
    | none =>
      exact .inl (congrArg _ (runCommand_write_unread (test := fun _ _ => .ok) h hi (by rw [hread, hb]; rfl)))
    | some b => exact .inr ⟨b, hstored hb⟩
  · exact congrArg _ (runCommand_write_beyond (test := fun _ _ => .ok) h hi)
  · exact congrArg _ (runCommand_write_unread (test := fun _ _ => .ok) h hi (segmentField_of_bad h1 h2))
  · exact congrArg _ (runCommand_write_stored (test := fun _ _ => .ok) h hi (if_pos hg) rfl)
  · have hput : putSegment (some k) = [g] :=
      congrArg (fun b => [b]) (BitVec.eq_of_toNat_eq (by rw [hg, BitVec.toNat_ofNat]; omega))
    exact congrArg _ (runCommand_write_stored (test := fun _ _ => .ok) h hi (segmentField_of_putSegment hput) rfl)
  · cases hd : readBearer f with
    | none => rfl
    | some d => exact absurd hf (readBearer_some hd)
  · rcases hi with rfl | hi
    · exact congrArg _ (runCommand_ruled h 3 0 (if_pos rfl))
    · exact (exec_writeBearers (by omega) f s).trans (congrArg _ (runCommand_write_beyond (test := bearerTest i) h hi))
  · rw [exec_writeBearers (by omega) f s]
    refine ⟨fun hf => congrArg _ (runCommand_write_unread (test := bearerTest i) h h2 hf), fun d hd => ?_⟩
    obtain ⟨hmis, hsound⟩ := bearerTest_cases s i d
    have hrefused : ∀ {r : ResultCode}, bearerTest i s d = r → r ≠ .ok → _ := fun hr hn =>
      (runCommand_write_refused (code := 3) (size := 0) (test := bearerTest i)
        (store := fun d s => s.setBearer i (d.written s.quayTime)) h h2 hd (hr ▸ hn)).trans (congrArg _ hr)
    exact ⟨fun hm => congrArg _ (hrefused (hmis hm) (by decide)), fun hm he =>
      congrArg _ (hrefused ((hsound hm).1 he) (by decide)), fun hm h1 h3 =>
      congrArg _ (runCommand_write_stored (test := bearerTest i) h h2 hd ((hsound hm).2 h1 h3))⟩
  · intro bad
    refine ⟨fun hi => congrArg _ (runCommand_write_beyond (test := fun _ _ => .ok) h hi), fun hi hb =>
      congrArg _ (runCommand_write_unread (test := fun _ _ => .ok) h hi ?_), fun hi e hp ha =>
      congrArg _ (runCommand_write_stored (test := fun _ _ => .ok) h hi ?_ rfl)⟩
    · rcases hb with ⟨h1, h2⟩ | ⟨h1, h2⟩
      · simp only [readPath, cellField_of_bad h1 h2, Option.bind_eq_bind, Option.bind_none]
      · simp only [readPath, cellField_of_bad h1 h2, Option.bind_eq_bind, Option.bind_none, Option.bind_fun_none]
    · simp only [readPath, cellField_of_putCell hp, cellField_of_putCell ha, Option.bind_eq_bind, Option.bind_some]
  · exact congrArg _ (runCommand_write_beyond (test := fun _ _ => .ok) h hi)
  · refine congrArg _ (runCommand_write_unread (test := fun _ _ => .ok) h hi ?_)
    rw [← Option.not_isSome_iff_eq_none, readProfile_isSome_iff, not_not]
    exact hf
  · obtain ⟨p, hp⟩ := Option.isSome_iff_exists.1 ((readProfile_isSome_iff f).2 hf)
    exact ⟨p, hp, congrArg _ (runCommand_write_stored (test := fun _ _ => .ok) h hi hp rfl)⟩
  · intro stored
    refine ⟨fun hi => congrArg _ (runCommand_write_beyond (test := fun _ _ => .ok) h hi), fun hi hf =>
      congrArg _ (runCommand_write_unread (test := fun _ _ => .ok) h hi (readReefer_eq_none hf)),
      fun hi hm p g hp hg => ?_⟩
    have hread := readReefer_of_sound hm hp hg
    have hstored : ∀ {b}, flagField f.registered = some b → exec (.writeReefers i f) s = stored b p g :=
      fun {b} hb => by
        have hsome : readReefer f = some { registered := b, mark := f.mark, profile := p, segment := g } := by
          rw [hread, hb]
          rfl
        refine congrArg _
          ((runCommand_write_stored (test := fun _ _ => .ok) (store := storeReefer i) h hi hsome rfl).trans ?_)
        rw [storeReefer, dropChanged_one]
        rfl
    refine ⟨fun h0 => hstored (if_pos h0), fun h1 => hstored (by rw [h1]; rfl), ?_⟩
    cases hb : flagField f.registered with
    | none =>
      exact .inl (congrArg _ (runCommand_write_unread (test := fun _ _ => .ok) h hi (by rw [hread, hb]; rfl)))
    | some b => exact .inr ⟨b, hstored hb⟩

end

/-! PROOFS. Clears of entries on the tables other than CRANES (O56). -/

namespace Sys2Proof.Machine

/-! ### The change list and the bearers -/

theorem dropChanged_eq (list : List Slot) (first count : Nat) :
    dropChanged list first count = list.filter fun i => decide (¬inRange first count i.val) := by
  refine List.filter_congr fun k _ => ?_
  rw [Bool.eq_iff_iff]
  simp only [Bool.not_eq_true', Bool.and_eq_false_iff, decide_eq_false_iff_not, decide_eq_true_eq]
  omega

section
variable {s : State} {first count : Nat}

theorem engagedRange_iff :
    s.engagedRange first count = true ↔ ∃ i, inRange first count i ∧ s.engaged (s.bearer i).treatment := by
  rw [State.engagedRange, List.any_eq_true]
  constructor
  · rintro ⟨k, hk, he⟩
    exact ⟨first + k, ⟨Nat.le_add_right .., Nat.add_lt_add_left (List.mem_range.1 hk) _⟩, (s.engages_iff _).1 he⟩
  · rintro ⟨i, ⟨h1, h2⟩, he⟩
    exact ⟨i - first, List.mem_range.2 (by omega), by rw [Nat.add_sub_cancel' h1]; exact (s.engages_iff _).2 he⟩

/-! ### Settings (R187) -/

/-- The first setting of a range whose cold value is refused gives the code. -/
theorem clearSettingsCode_refused {n k : Nat} (hk : k < n)
    (hbefore : ∀ j < k, settingCode s (first + j) (Settings.coldValue s.identity (first + j)) = .ok)
    (h : settingCode s (first + k) (Settings.coldValue s.identity (first + k)) ≠ .ok) :
    clearSettingsCode s first n = settingCode s (first + k) (Settings.coldValue s.identity (first + k)) := by
  induction n generalizing first k with
  | zero => omega
  | succ n ih =>
    unfold clearSettingsCode
    cases k with
    | zero =>
      rw [Nat.add_zero] at h ⊢
      split
      next hok => exact absurd hok h
      next => rfl
    | succ k =>
      have hok := hbefore 0 (Nat.succ_pos k)
      rw [Nat.add_zero] at hok
      rw [show first + (k + 1) = first + 1 + k by omega] at h ⊢
      simp only [hok]
      refine ih (Nat.lt_of_succ_lt_succ hk) (fun j hj => ?_) h
      rw [show first + 1 + j = first + (j + 1) by omega]
      exact hbefore (j + 1) (Nat.succ_lt_succ hj)

theorem clearSettingsCode_ok {n : Nat}
    (h : ∀ k < n, settingCode s (first + k) (Settings.coldValue s.identity (first + k)) = .ok) :
    clearSettingsCode s first n = .ok := by
  induction n generalizing first with
  | zero => rfl
  | succ n ih =>
    have hok := h 0 (Nat.succ_pos n)
    rw [Nat.add_zero] at hok
    unfold clearSettingsCode
    simp only [hok]
    refine ih fun k hk => ?_
    rw [show first + 1 + k = first + (k + 1) by omega]
    exact h (k + 1) (Nat.succ_lt_succ hk)

end

theorem State.emitNotices_eq (s : State) :
    s.emitNotices = { s with notices := s.emitNotices.notices, store := s.emitNotices.store } :=
  State.emitNotices_capture s s.capture

/-- A write of a setting stores its value, and changes the summary timer, the notices and the Frame Store at most. -/
theorem storeSetting_frame (index value : Nat) (s : State) : ∃ summary notices store, storeSetting index value s =
    { s with settings := s.settings.set index value, summary := summary, notices := notices, store := store } := by
  unfold storeSetting
  split
  · exact ⟨_, s.notices, s.store, rfl⟩
  · split
    · exact ⟨s.summary, _, s.store, rfl⟩
    · exact ⟨s.summary, s.notices, s.store, rfl⟩
  · split
    · exact ⟨s.summary, s.notices, s.store, rfl⟩
    · exact ⟨s.summary, _, _, State.emitNotices_eq { s with settings := s.settings.set 52 value }⟩
  · exact ⟨s.summary, s.notices, s.store, rfl⟩

/-- The settings of a range return to their cold values one by one. -/
theorem coldSettings_eq (first n : Nat) (s : State) : coldSettings first n s = (List.range n).foldl
    (fun u k => storeSetting (first + k) (Settings.coldValue s.identity (first + k)) u) s := by
  induction n generalizing first s with
  | zero => rfl
  | succ n ih =>
    rw [coldSettings, ih, List.range_succ_eq_map, List.foldl_cons, List.foldl_map, Nat.add_zero,
      (storeSetting_cold first s).1]
    refine congrArg (fun f => (List.range n).foldl f _) (funext fun u => funext fun k => ?_)
    rw [show first + 1 + k = first + k.succ by omega]

theorem coldSettings_frame (first n : Nat) (s : State) :
    (∀ i, (coldSettings first n s).setting i =
      if inRange first n i then Settings.coldValue s.identity i else s.setting i) ∧
    coldSettings first n s = { s with
      settings := (coldSettings first n s).settings, summary := (coldSettings first n s).summary
      notices := (coldSettings first n s).notices, store := (coldSettings first n s).store } := by
  induction n generalizing first s with
  | zero => exact ⟨fun i => (if_neg (by omega)).symm, rfl⟩
  | succ n ih =>
    obtain ⟨summary, notices, store, hframe⟩ := storeSetting_frame first (Settings.coldValue s.identity first) s
    generalize ht : storeSetting first (Settings.coldValue s.identity first) s = t at hframe
    obtain ⟨hget, hrest⟩ := ih (first + 1) t
    have hid : t.identity = s.identity := by rw [hframe]
    have hset : ∀ i, t.setting i = if i = first then Settings.coldValue s.identity first else s.setting i := fun i => by
      rw [State.setting, hframe]
      exact Table.get_set ..
    rw [coldSettings, ht]
    refine ⟨fun i => ?_, ?_⟩
    · rw [hget, hid, hset]
      by_cases hi : i = first
      · subst hi
        rw [if_neg (by omega), if_pos rfl, if_pos (by omega)]
      · rw [if_neg hi]
        exact if_congr (by omega) rfl rfl
    · rw [hrest, hframe]

section
variable {s : State} {c : Instr} {entries first count : Nat} {test : State → ResultCode} {clear : State → State}

theorem refusesRange_of_clear (h : s.alone) (hexec : exec c s =
    .next (runCommand 4 0 (fun s => clearEntries entries first count (test s) clear s) s)) :
    refusesRange entries first count c s := by
  obtain ⟨hzero, hbeyond⟩ := runCommand_clear_range (s := s) (code := 4) (size := 0) (entries := entries)
    (first := first) (count := count) (test := test) (clear := clear) h
  exact ⟨fun hc => hexec.trans (congrArg _ (hzero hc)), fun hc hb => hexec.trans (congrArg _ (hbeyond hc hb))⟩

theorem exec_clear_done (h : s.alone) (hexec : exec c s =
    .next (runCommand 4 0 (fun s => clearEntries entries first count (test s) clear s) s)) (hc : 0 < count)
    (hr : first + count ≤ entries) (ht : test s = .ok) : exec c s = .next ((clear s).ruled 4 .ok) :=
  hexec.trans (congrArg _ ((runCommand_clear_tested h hc hr).2 ht))

theorem exec_clear_refused (h : s.alone) (hexec : exec c s =
    .next (runCommand 4 0 (fun s => clearEntries entries first count (test s) clear s) s)) (hc : 0 < count)
    (hr : first + count ≤ entries) {r : ResultCode} (ht : test s = r) (hn : r ≠ .ok) :
    exec c s = .next (s.ruled 4 r) := by
  subst ht
  exact hexec.trans (congrArg _ ((runCommand_clear_tested h hc hr).1 hn))

end

end Sys2Proof.Machine

section
open Sys2Proof Sys2Proof.Machine

/-- Settles O56: the range is judged first, then the table's own test; each entry of the range takes its cleared
value. -/
theorem entriesCleared : Obligations.EntriesCleared := by
  intro s first count h
  refine ⟨refusesRange_of_clear (test := fun _ => .ok) h rfl, refusesRange_of_clear (test := fun _ => .ok) h rfl,
    refusesRange_of_clear (test := fun _ => .ok) h rfl,
    refusesRange_of_clear (test := bearerRangeTest first count) (clear := clearBearerRange first count) h rfl,
    refusesRange_of_clear (test := fun _ => .ok) h rfl, refusesRange_of_clear (test := fun _ => .ok) h rfl,
    refusesRange_of_clear (test := fun _ => .ok) h rfl, refusesRange_of_clear (test := fun _ => .ok) h rfl,
    refusesRange_of_clear (test := fun s => clearSettingsCode s first count) (clear := coldSettings first count) h rfl,
    fun hc => ⟨fun hr => ?_, fun hr => ?_, fun hr => ?_, fun h0 hr => ?_, fun h0 hr => ⟨fun he => ?_, fun he => ?_⟩,
      fun hr => ?_, fun hr => ?_, fun hr => ?_, fun hr => ?_, fun hr => ⟨fun k hk hbefore hcode => ?_, fun hcode => ?_⟩⟩⟩
  · exact ⟨_, exec_clear_done (test := fun _ => .ok) h rfl hc hr rfl, rfl, fun i => Table.get_fill ..⟩
  · exact ⟨_, exec_clear_done (test := fun _ => .ok) h rfl hc hr rfl, rfl, fun i => Table.get_fill ..⟩
  · exact ⟨_, exec_clear_done (test := fun _ => .ok) h rfl hc hr rfl, rfl, fun i => Table.get_fill ..⟩
  · exact exec_clear_refused (test := bearerRangeTest first count) (clear := clearBearerRange first count) h rfl hc
      (by omega) (if_pos h0) (by decide)
  · exact exec_clear_refused (test := bearerRangeTest first count) (clear := clearBearerRange first count) h rfl hc hr
      ((if_neg (by omega)).trans (if_pos (engagedRange_iff.2 he))) (by decide)
  · have hfree : ¬s.engagedRange first count = true := fun hb => by
      obtain ⟨i, hi, hengaged⟩ := engagedRange_iff.1 hb
      exact he i hi hengaged
    exact ⟨_, exec_clear_done (test := bearerRangeTest first count) (clear := clearBearerRange first count) h rfl hc hr
      ((if_neg (by omega)).trans (if_neg hfree)), rfl, fun i => Table.get_fill ..⟩
  · exact ⟨_, exec_clear_done (test := fun _ => .ok) h rfl hc hr rfl, rfl, fun i => Table.get_fill ..⟩
  · exact ⟨_, exec_clear_done (test := fun _ => .ok) h rfl hc hr rfl, rfl, fun i => Table.get_fill ..⟩
  · refine ⟨_, exec_clear_done (test := fun _ => .ok) (clear := clearReeferRange first count) h rfl hc hr rfl, ?_,
      fun i => Table.get_fill ..⟩
    rw [clearReeferRange, dropChanged_eq]
  · exact ⟨_, exec_clear_done (test := fun _ => .ok) h rfl hc hr rfl, rfl, fun i => Table.get_fill ..⟩
  · exact exec_clear_refused (test := fun s => clearSettingsCode s first count) (clear := coldSettings first count) h rfl
      hc hr (clearSettingsCode_refused hk hbefore hcode) hcode
  · obtain ⟨hget, hframe⟩ := coldSettings_frame first count s
    exact ⟨coldSettings first count s, exec_clear_done (test := fun s => clearSettingsCode s first count) h rfl hc hr
      (clearSettingsCode_ok hcode), coldSettings_eq first count s, hget, hframe⟩

end

/-! PROOFS. The layouts of the table entries that Read Entries returns (R198). -/

namespace Sys2Proof.Machine

/-! ### Entries as their fields one after the other -/

theorem bigEndian_length (size n : Nat) : (bigEndian size n).length = size := by simp [bigEndian]

theorem put48_eq_fields (n : Nat) : put48 n = [(0, bigEndian 6 n)].flatMap Prod.snd := by
  simp [bigEndian_six]

theorem putCellEntry_eq (c : CellEntry) : putCellEntry c = (cellLayout c).flatMap Prod.snd := by
  simp [putCellEntry, cellLayout, flagByte_eq, bigEndian_one, bigEndian_two]

theorem treatmentFields_eq (t : Treatment) : treatmentFields t =
    (captureKindCode (kindOf t), treatmentSegment t, treatmentSpecial t, treatmentAbsorbs t) := by
  cases t <;> rfl

theorem putDescriptor_eq (d : Descriptor) : putDescriptor d = (descriptorLayout d).flatMap Prod.snd := by
  have hbits : ∀ b : Bool, put8 (bitsOf [b]) = putFlag b := fun b => by simp [bitsOf, putFlag]
  have hflags : bitsOf [false, false, d.coarse, d.demote, treatmentAbsorbs d.treatment] =
      4 * bitsOf [d.coarse, d.demote, treatmentAbsorbs d.treatment] := by
    simp only [bitsOf, Bool.toNat_false]; omega
  simp only [putDescriptor, descriptorLayout, treatmentFields_eq, bigEndian_one, bigEndian_two, bigEndian_four,
    flagBits_eq, hbits, hflags, placeByte_cell, placeByte_segment, List.flatMap_cons, List.flatMap_nil,
    List.append_assoc, List.append_nil]

theorem putCraneCounts_eq (c : CraneCounts) : putCraneCounts c = (craneCountLayout c).flatMap Prod.snd := by
  simp [putCraneCounts, craneCountLayout, bigEndian_two]

theorem putCraneConfig_eq (c : CraneConfig) : putCraneConfig c = (craneConfigLayout c).flatMap Prod.snd := by
  simp only [putCraneConfig, craneConfigLayout, padTo, zeros, flagByte_eq, bigEndian_one, bigEndian_two,
    List.flatMap_cons, List.flatMap_nil, List.append_assoc, List.append_nil]

theorem craneState_eq {k : CraneLink} (hr : k.resolved.length ≤ 2) (hp : k.previous.length ≤ 2) :
    putCraneStatus k ++ (putCraneTimes k ++ putCraneSets k) = (craneStateLayout k).flatMap Prod.snd := by
  have hsend : (k.resolved ++ k.previous.filter fun c => !k.resolved.contains c).length ≤ 4 := by
    have := k.sendSet_length
    exact this.trans (by omega)
  simp only [putCraneStatus, putCraneTimes, putCraneSets, craneStateLayout, cellBytes_eq hr, cellBytes_eq hp,
    cellBytes_eq hsend, timeBytes_eq, sequenceBytes_eq, placeByte_segment, flagBits_eq, bigEndian_one, bigEndian_two,
    List.flatMap_cons, List.flatMap_nil, List.append_assoc, List.append_nil]
  rfl

theorem putCraneLink_eq {k : CraneLink} (hr : k.resolved.length ≤ 2) (hp : k.previous.length ≤ 2) :
    putCraneLink k = (craneLayout k).flatMap Prod.snd := by
  have hcounts : ((craneCountLayout k.counts).map fun f => (134 + f.1, f.2)).flatMap Prod.snd =
      putCraneCounts k.counts := by
    rw [List.flatMap_map, putCraneCounts_eq]
  simp only [putCraneLink, craneLayout, List.flatMap_append, ← putCraneConfig_eq, ← craneState_eq hr hp, hcounts,
    List.flatMap_cons, List.flatMap_nil, List.append_assoc, List.append_nil]
  rfl

theorem putPathEntries_eq (a b : PathEntry) : putPathEntry a ++ putPathEntry b =
    [(0, placeByte a.primary), (1, placeByte a.alternate), (2, placeByte b.primary),
      (3, placeByte b.alternate)].flatMap Prod.snd := by
  simp [putPathEntry, placeByte_cell]

theorem putProfile_eq (p : Profile) : putProfile p = (profileLayout p).flatMap Prod.snd := by
  simp [putProfile, profileLayout, bigEndian_one, bigEndian_two, bigEndian_four, bigEndian_zero]

theorem putReeferSlot_eq (v : ReeferSlot) : putReeferSlot v = (reeferLayout v).flatMap Prod.snd := by
  simp only [putReeferSlot, putReeferConfig, putReeferValues, putReeferTimes, reeferLayout, reeferConfigLayout,
    reeferRecordLayout, padTo, zeros, flagByte_eq, placeByte_segment, tempBytes_eq, timeBytes_eq, flagBits_eq,
    bigEndian_one, bigEndian_two, bigEndian_four, List.flatMap_append, List.flatMap_cons, List.flatMap_nil,
    List.append_assoc, List.append_nil, checkBits]
  rfl

theorem putCoverEntry_eq (e : CoverEntry) : putCoverEntry e = (coverLayout e).flatMap Prod.snd := by
  simp [putCoverEntry, coverLayout, bigEndian_one, bigEndian_two, bigEndian_four, bigEndian_zero, timeBytes_eq,
    flagBits_eq, bitsOf, putFlag]

/-! ### Where the fields stand -/

theorem follows_append {o : Nat} {a b : List (Nat × List Byte)} (ha : follows o a)
    (hb : follows (o + (a.flatMap Prod.snd).length) b) : follows o (a ++ b) := by
  induction a generalizing o with
  | nil => exact hb
  | cons f a ih =>
    obtain ⟨h1, h2⟩ := ha
    refine ⟨h1, ih h2 ?_⟩
    rw [List.flatMap_cons, List.length_append, ← Nat.add_assoc] at hb
    exact hb

/-- Fields that follow one another do so at any distance. -/
theorem follows_shift {o : Nat} (d : Nat) {a : List (Nat × List Byte)} (h : follows o a) :
    follows (d + o) (a.map fun f => (d + f.1, f.2)) := by
  induction a generalizing o with
  | nil => trivial
  | cons f a ih => exact ⟨congrArg (d + ·) h.1, by rw [Nat.add_assoc]; exact ih h.2⟩

@[simp] theorem timeBytes_length (t : Option QuayTime) : (timeBytes t).length = 4 := by
  rw [timeBytes_eq, putTime_length]

@[simp] theorem tempBytes_length (t : Option Int) : (tempBytes t).length = 2 := by rw [tempBytes_eq, putTemp_length]

@[simp] theorem sequenceBytes_length (q : Option Sequence) : (sequenceBytes q).length = 2 := by
  rw [sequenceBytes_eq, putSequence_length]

@[simp] theorem flagByte_length (b : Bool) : (flagByte b).length = 1 := rfl

@[simp] theorem placeByte_length {n : Nat} (x : Option (Fin n)) : (placeByte x).length = 1 := rfl

@[simp] theorem cellBytes_length (n : Nat) (cells : List Cell) : (cellBytes n cells).length = n + 1 := by
  simp [cellBytes, bigEndian_length, placeByte_length, List.length_flatMap, Nat.add_comm]

theorem cellLayout_follows (c : CellEntry) : follows 0 (cellLayout c) := by
  simp [cellLayout, follows, bigEndian_length]

theorem descriptorLayout_follows (d : Descriptor) : follows 0 (descriptorLayout d) := by
  simp [descriptorLayout, follows, bigEndian_length]

theorem craneCountLayout_follows (c : CraneCounts) : follows 0 (craneCountLayout c) := by
  simp [craneCountLayout, follows, bigEndian_length]

theorem craneConfigLayout_follows (c : CraneConfig) : follows 0 (craneConfigLayout c) := by
  simp [craneConfigLayout, follows, bigEndian_length]

theorem putCraneConfig_length {c : CraneConfig} (h : c.template.length ≤ 64) : (putCraneConfig c).length = 86 := by
  simp [putCraneConfig, padTo_length h]

theorem craneStateLayout_follows (k : CraneLink) : follows 86 (craneStateLayout k) := by
  simp [craneStateLayout, follows, bigEndian_length]

theorem craneState_length (k : CraneLink) : ((craneStateLayout k).flatMap Prod.snd).length = 48 := by
  simp [craneStateLayout, bigEndian_length]

theorem craneCounts_length (c : CraneCounts) : (putCraneCounts c).length = 22 := rfl

theorem craneLayout_follows {k : CraneLink} (h : k.config.template.length ≤ 64) : follows 0 (craneLayout k) := by
  have hstart : 86 + ((craneStateLayout k).flatMap Prod.snd).length = 134 + 0 := by rw [craneState_length]
  unfold craneLayout
  refine follows_append (follows_append (follows_append (craneConfigLayout_follows _) ?_) ?_) ?_
  · rw [← putCraneConfig_eq, putCraneConfig_length h]
    exact craneStateLayout_follows k
  · rw [List.flatMap_append, ← putCraneConfig_eq, List.length_append, putCraneConfig_length h, craneState_length]
    exact follows_shift 134 (craneCountLayout_follows _)
  · rw [List.flatMap_append, List.flatMap_append, ← putCraneConfig_eq, List.length_append, List.length_append,
      putCraneConfig_length h, craneState_length, List.flatMap_map, ← putCraneCounts_eq, craneCounts_length]
    exact ⟨rfl, trivial⟩

theorem profileLayout_follows (p : Profile) : follows 0 (profileLayout p) := by
  simp [profileLayout, follows, bigEndian_length]

theorem reeferLayout_follows {v : ReeferSlot} (hm : v.config.mark.length = 11) (ha : v.record.alarms.length ≤ 4) :
    follows 0 (reeferLayout v) := by
  simp [reeferLayout, reeferConfigLayout, reeferRecordLayout, follows, bigEndian_length, hm]
  omega

theorem coverLayout_follows (e : CoverEntry) : follows 0 (coverLayout e) := by
  simp [coverLayout, follows, bigEndian_length]

end Sys2Proof.Machine

/-! PROOFS. What a Write Entry stores reads back as it was carried, and the entries as Read Entries returns them
(O60). -/

namespace Sys2Proof.Machine

/-! ### Bytes read and written (R192) -/

@[simp] theorem put8_toNat (b : Byte) : put8 b.toNat = [b] := by simp [put8]

@[simp] theorem put16_wordAt (b : List Byte) (i : Nat) : put16 (wordAt b i).toNat = [byteAt b i, byteAt b (i + 1)] := by
  have hword : (wordAt b i).toNat = (byteAt b i).toNat * 256 + (byteAt b (i + 1)).toNat := by
    rw [wordAt, BitVec.toNat_append, Nat.shiftLeft_eq, Nat.mul_comm, ← Nat.two_pow_add_eq_or_of_lt (byteAt b (i + 1)).isLt,
      Nat.mul_comm]
  have h1 := (byteAt b (i + 1)).isLt
  simp only [put16, hword, List.cons.injEq, and_true]
  constructor <;> refine BitVec.eq_of_toNat_eq ?_ <;> rw [BitVec.toNat_ofNat] <;> omega

theorem put32_longAt (b : List Byte) (i : Nat) : put32 (longAt b i).toNat =
    [byteAt b i, byteAt b (i + 1), byteAt b (i + 2), byteAt b (i + 3)] := by
  have hlong : (longAt b i).toNat = (wordAt b i).toNat * 65536 + (wordAt b (i + 2)).toNat := by
    rw [longAt, BitVec.toNat_append, Nat.shiftLeft_eq, Nat.mul_comm, ← Nat.two_pow_add_eq_or_of_lt (wordAt b (i + 2)).isLt,
      Nat.mul_comm]
  have h1 := (wordAt b (i + 2)).isLt
  have hhigh : (longAt b i).toNat / 65536 = (wordAt b i).toNat := by omega
  have hlow : put16 (longAt b i).toNat = put16 (wordAt b (i + 2)).toNat := by
    simp only [put16, hlong, List.cons.injEq, and_true]
    constructor <;> refine BitVec.eq_of_toNat_eq ?_ <;> rw [BitVec.toNat_ofNat, BitVec.toNat_ofNat] <;> omega
  rw [put32, hhigh, hlow, put16_wordAt, put16_wordAt]
  rfl

/-- The first bytes of some are those at the offsets in turn. -/
theorem take_eq_bytes {b : List Byte} {n : Nat} (h : n ≤ b.length) : b.take n = (List.range n).map (byteAt b) := by
  refine List.ext_getElem (by simpa using h) fun i h1 h2 => ?_
  simp only [List.length_take, List.length_map, List.length_range] at h1 h2
  simp [byteAt, List.getElem?_eq_getElem (show i < b.length by omega)]

theorem eq_bytes {b : List Byte} {n : Nat} (h : b.length = n) : b = (List.range n).map (byteAt b) := by
  rw [← take_eq_bytes (Nat.le_of_eq h.symm), List.take_of_length_le (Nat.le_of_eq h)]

theorem take_append_bytesAt (b : List Byte) (i n : Nat) : b.take i ++ bytesAt b i n = b.take (i + n) :=
  List.take_add.symm

theorem putFlag_of_flagField {b : Byte} {p : Bool} (hb : b = 0 ∨ b = 1) (h : flagField b = some p) :
    putFlag p = [b] := by
  rcases hb with rfl | rfl <;> cases h <;> rfl

/-! ### Configuration parts -/

theorem edgeField_some {b : Byte} {e : EdgeSelect} (h : edgeField b = some e) : put8 (edgeCode e) = [b] := by
  unfold edgeField at h
  have hcode : edgeCode e = b.toNat := by
    split at h
    next hb => cases h; exact hb.symm
    next hb => cases h; exact hb.symm
    next hb => cases h; exact hb.symm
    next hb => cases h; exact hb.symm
    next => cases h
  rw [hcode, put8_toNat]

/-- What is read of the flags of a BEARERS entry is written back to the same byte, if it has no reserved bit. -/
theorem bearer_flags {b : Byte} (h : b.toNat < 32) :
    (b.setWidth 2).toFin.val + 4 * bitsOf [b.getLsbD 2, b.getLsbD 3, b.getLsbD 4] = b.toNat := by
  revert b
  decide

section
variable {f : BearerFields} {d : Descriptor}

/-- What a treatment that was read is written back as (R18, R198). -/
theorem readTreatment_written {g : Option Segment} {t : Treatment} (hc : bearerFieldsClean f)
    (hg : f.kind ≠ 1 → g = none) (h : readTreatment f g = some t) :
    captureKindCode (kindOf t) = f.kind.toNat ∧ treatmentSegment t = g ∧ treatmentSpecial t = f.special.toNat ∧
      treatmentAbsorbs t = f.absorb := by
  obtain ⟨hspecial, habsorb⟩ := hc
  have hkind : ∀ n, f.kind.toNat = n → n < 256 → f.kind = BitVec.ofNat 8 n := fun n h hn => by
    rw [← h]; simp
  unfold readTreatment at h
  split at h
  next hk =>
    have hk' := hkind _ hk (by decide)
    split at h
    · cases h
    · cases h
      exact ⟨hk.symm, (hg (by rw [hk']; decide)).symm, by rw [hspecial (.inl hk')]; rfl,
        (habsorb (by rw [hk']; decide)).symm⟩
  next hk =>
    have hk' := hkind _ hk (by decide)
    split at h
    · cases h
    · cases h
      exact ⟨hk.symm, rfl, by rw [hspecial (.inr hk')]; rfl, (habsorb (by rw [hk']; decide)).symm⟩
  next hk =>
    have hk' := hkind _ hk (by decide)
    split at h
    · cases h
      exact ⟨hk.symm, (hg (by rw [hk']; decide)).symm, rfl, (habsorb (by rw [hk']; decide)).symm⟩
    · cases h
  next hk =>
    have hk' := hkind _ hk (by decide)
    split at h
    · cases h
      exact ⟨hk.symm, (hg (by rw [hk']; decide)).symm, rfl, rfl⟩
    · cases h
  next hk =>
    have hk' := hkind _ hk (by decide)
    split at h
    · cases h
      refine ⟨hk.symm, (hg (by rw [hk']; decide)).symm, ?_, (habsorb (by rw [hk']; decide)).symm⟩
      simp only [treatmentSpecial, BitVec.toNat_setWidth]
      omega
    · cases h
  next => cases h

/-- A BEARERS write that is read is of its own parts, an ABSENT one the cold descriptor (R18). -/
theorem readBearer_parts (h : readBearer f = some d) : ∃ home g t, cellField f.homeCell = some home ∧
    segmentField f.segment = some g ∧ readTreatment f g = some t ∧ (f.kind ≠ 1 → g = none) ∧
    d = if f.kind = 0 then Descriptor.cold else { Descriptor.cold with
      treatment := t, cls := f.cls.toFin, rate := f.rate.toNat, coarse := f.coarse, burst := f.burst.toNat,
      demote := f.demote, homeCell := home } := by
  simp only [readBearer, Option.bind_eq_bind, Option.bind_eq_some_iff] at h
  obtain ⟨home, hhome, g, hg, t, ht, h⟩ := h
  refine ⟨home, g, t, hhome, hg, ht, ?_⟩
  split at h
  next => cases h
  next hr =>
    refine ⟨fun hk => ?_, ?_⟩
    · simp only [Bool.or_eq_true, not_or, Bool.and_eq_true, not_and, Bool.not_eq_true', decide_eq_false_iff_not,
        Bool.not_eq_true, Option.isSome_eq_false_iff, Option.isNone_iff_eq_none] at hr
      exact hr.1.2 hk
    · split at h
      next hk => cases h; exact (if_pos hk).symm
      next hk => cases h; exact (if_neg hk).symm

end

theorem readCrane_parts {f : CraneFields} {c : CraneConfig} (h : readCrane f = some c) :
    f.enable.toNat ≤ 1 ∧ f.bearer.toNat ≤ 4095 ∧ f.templateLength.toNat ≤ 64 ∧ c =
      { enable := decide (f.enable = 1), bearer := f.bearer.setWidth 12, period := f.period.toNat,
        jitter := f.jitter.toNat, threshold := f.threshold.toNat, recovery := f.recovery.toNat,
        overlap := f.overlap.toNat, window := f.window.toNat, tokenA := f.tokenA, tokenB := f.tokenB,
        template := f.template.take f.templateLength.toNat, degradedLevel := f.degradedLevel.toNat,
        holdLevel := f.holdLevel.toNat, releasedLevel := f.releasedLevel.toNat,
        pathPoorLevel := f.pathPoorLevel.toNat } := by
  unfold readCrane at h
  simp only [Bool.and_eq_true, within_iff] at h
  split at h
  next hr =>
    injection h with h
    exact ⟨by omega, by omega, by omega, h.symm⟩
  next => cases h

/-- A profile that is read is of the values carried (R113). -/
theorem putProfile_of_readProfile {f : ProfileFields} {p : Profile} (h : readProfile f = some p) :
    putProfile p = [f.highMargin, f.lowMargin, f.hysteresis, f.spikeStep, f.band, f.reportDelta] ++
      put16 f.staleTime.toNat ++ put32 f.lostTime.toNat ++ [f.highEdges, f.lowEdges, f.powerEdges, f.alarmEdges,
        f.staleEdges, f.highLevel, f.lowLevel, f.powerLevel, f.alarmLevel, f.staleLevel, 0, 0] := by
  simp only [readProfile, Option.bind_eq_bind, Option.bind_eq_some_iff] at h
  obtain ⟨_, hhigh, _, hlow, _, hpower, _, halarm, _, hstale, h⟩ := h
  split at h
  next =>
    cases h
    simp only [putProfile, put8_toNat, edgeField_some hhigh, edgeField_some hlow, edgeField_some hpower,
      edgeField_some halarm, edgeField_some hstale, List.append_assoc]
    rfl
  next => cases h

theorem readReefer_some {f : ReeferFields} {c : ReeferConfig} (h : readReefer f = some c) :
    flagField f.registered = some c.registered ∧ c.mark = f.mark ∧ c.profile.val = f.profile.toNat ∧
      putSegment c.segment = [f.segment] := by
  simp only [readReefer, Option.bind_eq_bind, Option.bind_eq_some_iff] at h
  obtain ⟨_, hr, g, hg, h⟩ := h
  split at h
  next =>
    split at h
    next => cases h; exact ⟨hr, rfl, rfl, (segmentField_some hg).2⟩
    next => cases h
  next => cases h

/-! ### Read back -/

theorem cell_readsBack {b : List Byte} {up : Bool} {v : Bool × Fin 4 × BitVec 16} (hb : b.length = 4)
    (hflag : byteAt b 0 = 0 ∨ byteAt b 0 = 1) (h : readCell (decodeCell b) = some v) :
    putCellEntry { present := v.1, quayPort := v.2.1, label := v.2.2, portUp := up } = b ++ putFlag up ++ [0] := by
  unfold readCell at h
  split at h
  next =>
    obtain ⟨p, hp, rfl⟩ := Option.map_eq_some_iff.1 h
    conv_rhs => rw [eq_bytes hb]
    simp only [putCellEntry, putFlag_of_flagField hflag hp, decodeCell, put8_toNat, put16_wordAt, List.range_succ]
    rfl
  next => cases h

theorem bearer_readsBack {b : List Byte} {d : Descriptor} (now : QuayTime) (hb : b.length = 10) (hk : byteAt b 0 ≠ 0)
    (hc : bearerFieldsClean (decodeBearer b)) (hf : (byteAt b 1).toNat < 32)
    (h : readBearer (decodeBearer b) = some d) : (putDescriptor (d.written now)).take 9 = b.take 9 := by
  obtain ⟨home, g, t, hhome, hg, ht, hnone, hd⟩ := readBearer_parts h
  rw [if_neg (show ¬(decodeBearer b).kind = 0 from hk)] at hd
  subst hd
  obtain ⟨hkind, hseg, hspecial, habsorb⟩ := readTreatment_written hc hnone ht
  rw [take_eq_bytes (by omega : 9 ≤ b.length)]
  simp only [putDescriptor, Descriptor.written, hkind, hseg, hspecial, habsorb, (cellField_some hhome).2,
    (segmentField_some hg).2, decodeBearer, bearer_flags hf, put8_toNat, put16_wordAt, List.range_succ]
  rfl

theorem absentBearer_readsBack {b : List Byte} {d : Descriptor} (now : QuayTime) (hk : byteAt b 0 = 0)
    (h : readBearer (decodeBearer b) = some d) :
    (putDescriptor (d.written now)).take 9 = [0, 0, 0, 0, 1, 255, 255, 0, 0] := by
  obtain ⟨_, _, _, -, -, -, -, hd⟩ := readBearer_parts h
  rw [if_pos (show (decodeBearer b).kind = 0 from hk)] at hd
  subst hd
  simp [putDescriptor, Descriptor.written, Descriptor.cold, put8, put16, kindOf, captureKindCode, bitsOf,
    treatmentAbsorbs, treatmentSegment, treatmentSpecial, putCell, putSegment]

theorem crane_readsBack {b : List Byte} {c : CraneConfig} (hb : b.length = 86)
    (h : readCrane (decodeCrane b) = some c) :
    putCraneConfig c = b.take (22 + (byteAt b 9).toNat) ++ zeros (64 - (byteAt b 9).toNat) := by
  obtain ⟨henable, hbearer, htemplate, rfl⟩ := readCrane_parts h
  simp only [decodeCrane] at henable hbearer htemplate
  have hflag : putFlag (decide ((decodeCrane b).enable = 1)) = [byteAt b 0] := by
    show putFlag (decide (byteAt b 0 = 1)) = _
    have hcases : byteAt b 0 = 0 ∨ byteAt b 0 = 1 := by bv_omega
    rcases hcases with h | h <;> rw [h] <;> rfl
  have hnumber : ((wordAt b 2).setWidth 12).toNat = (wordAt b 2).toNat := by
    rw [BitVec.toNat_setWidth]; omega
  have hpart : (bytesAt b 22 64).take (byteAt b 9).toNat = bytesAt b 22 (byteAt b 9).toNat := by
    rw [bytesAt, List.take_take, Nat.min_eq_left htemplate, bytesAt]
  have hlength := Laws.bytesAt_length b 22 (byteAt b 9).toNat (by omega)
  rw [← take_append_bytesAt, take_eq_bytes (by omega : 22 ≤ b.length)]
  simp only [putCraneConfig, hflag]
  simp only [decodeCrane, hnumber, hpart, padTo, hlength, put8_toNat, put16_wordAt,
    List.range_succ, List.append_assoc]
  rfl

theorem profile_readsBack {b : List Byte} {p : Profile} (hb : b.length = 24)
    (h : readProfile (decodeProfile b) = some p) : putProfile p = b.take 22 ++ [0, 0] := by
  rw [putProfile_of_readProfile h, take_eq_bytes (by omega : 22 ≤ b.length)]
  simp only [decodeProfile, put16_wordAt, put32_longAt, List.range_succ]
  rfl

theorem reefer_readsBack {b : List Byte} {c : ReeferConfig} (hb : b.length = 14)
    (hflag : byteAt b 0 = 0 ∨ byteAt b 0 = 1) (h : readReefer (decodeReefer b) = some c) :
    putFlag c.registered ++ c.mark ++ put8 c.profile.val ++ putSegment c.segment = b := by
  obtain ⟨hr, hmark, hprofile, hsegment⟩ := readReefer_some h
  have hall : b = b.take 1 ++ bytesAt b 1 11 ++ [byteAt b 12, byteAt b 13] := by
    have htail : bytesAt b 12 2 = [byteAt b 12, byteAt b 13] := by
      refine List.ext_getElem (Laws.bytesAt_length b 12 2 (by omega)) fun i h1 h2 => ?_
      simp only [List.length_cons, List.length_nil] at h2
      interval_cases i <;> simp [bytesAt, byteAt, hb]
    rw [take_append_bytesAt, ← htail, take_append_bytesAt, List.take_of_length_le (by omega)]
  rw [putFlag_of_flagField hflag hr, hmark, hprofile, hsegment, put8_toNat]
  conv_rhs => rw [hall, take_eq_bytes (by omega : 1 ≤ b.length)]
  simp only [decodeReefer, List.append_assoc, List.range_succ]
  rfl

/-! ### Entries as Read Entries returns them (R186, R198) -/

section
variable (s : State)

theorem entry_settings (i : Nat) : laidOut (entryData s 1 i) 6 [(0, bigEndian 6 (s.setting i))] :=
  laidOut_of_follows (put48_eq_fields _) rfl ⟨rfl, trivial⟩

theorem entry_managers (i : Nat) :
    laidOut (entryData s 2 i) 6 [(0, bigEndian 6 (s.endpoint.managers.get i).toNat)] :=
  laidOut_of_follows (put48_eq_fields _) rfl ⟨rfl, trivial⟩

theorem entry_cells (i : Nat) : laidOut (entryData s 3 i) 6 (cellLayout (s.classifier.cells.get i)) :=
  laidOut_of_follows (putCellEntry_eq _) rfl (cellLayout_follows _)

theorem entry_geometry (i : Nat) : laidOut (entryData s 4 i) 1 [(0, placeByte (s.paths.geometry.get i))] :=
  laidOut_of_follows (by simp [entryData, placeByte_segment]) (putSegment_length _) ⟨rfl, trivial⟩

theorem entry_bearers (i : Nat) : laidOut (entryData s 5 i) 32 (descriptorLayout (s.bearer i)) :=
  laidOut_of_follows (putDescriptor_eq _) (by simp [entryData, putDescriptor]) (descriptorLayout_follows _)

theorem entry_cranes (h : s.sizesLegal) (l : Link) : laidOut (entryData s 6 l.val) 192 (craneLayout (s.link l)) := by
  obtain ⟨hlinks, -⟩ := h
  obtain ⟨ht, hr, hp⟩ := hlinks l
  refine laidOut_of_follows (putCraneLink_eq hr hp) ?_ (craneLayout_follows ht)
  have hsend := (s.link l).sendSet_length
  show (putCraneLink (s.link l)).length = 192
  simp [putCraneLink, putCraneConfig_length ht, craneCounts_length, putCraneStatus, putCraneTimes, putCraneSets,
    putCells_length hr, putCells_length hp, putCells_length (hsend.trans (by omega : _ ≤ 4))]

theorem entry_paths (i : Nat) : laidOut (entryData s 7 i) 4
    [(0, placeByte (s.paths.staged.get i).primary), (1, placeByte (s.paths.staged.get i).alternate),
      (2, placeByte (s.paths.active.get i).primary), (3, placeByte (s.paths.active.get i).alternate)] :=
  laidOut_of_follows (putPathEntries_eq _ _) (by simp [entryData, putPathEntry]) ⟨rfl, rfl, rfl, rfl, trivial⟩

theorem entry_profiles (i : Nat) : laidOut (entryData s 8 i) 24 (profileLayout (s.registry.profiles.get i)) :=
  laidOut_of_follows (putProfile_eq _) (by simp [entryData, putProfile]) (profileLayout_follows _)

theorem entry_reefers (h : s.sizesLegal) (i : Slot) : laidOut (entryData s 9 i.val) 64 (reeferLayout (s.slot i)) := by
  obtain ⟨-, hslots, -⟩ := h
  obtain ⟨hm, ha⟩ := hslots i
  refine laidOut_of_follows (putReeferSlot_eq _) ?_ (reeferLayout_follows hm ha)
  show (putReeferSlot (s.slot i)).length = 64
  simp [putReeferSlot, putReeferConfig, putReeferValues, putReeferTimes, hm, padTo_length ha]

theorem entry_coverage (i : Nat) : laidOut (entryData s 10 i) 16 (coverLayout (s.cover i)) :=
  laidOut_of_follows (putCoverEntry_eq _) (by simp [entryData, putCoverEntry]) (coverLayout_follows _)

end

end Sys2Proof.Machine

section
open Sys2Proof Sys2Proof.Machine

/-- Settles O60: each configuration part is read as its bytes and written back as them, and each entry is its fields one
after the other. -/
theorem writtenEntriesReadBack : Obligations.WrittenEntriesReadBack := by
  refine ⟨fun b up v hb hflag h => cell_readsBack hb hflag h, fun b d now hb hk hc hf h =>
    bearer_readsBack now hb hk hc hf h, fun b d now _ hk _ h => absentBearer_readsBack now hk h, fun b c hb h =>
    crane_readsBack hb h, fun b p hb h => profile_readsBack hb h, fun b c hb hflag h => reefer_readsBack hb hflag h,
    fun c g => ⟨fun x h => cellField_of_putCell h, fun x h => segmentField_of_putSegment h⟩, fun s =>
    ⟨entry_settings s, entry_managers s, fun c => entry_cells s c.val, entry_geometry s, entry_bearers s,
      fun l h => entry_cranes s h l, entry_paths s, entry_profiles s, fun i h => entry_reefers s h i,
      entry_coverage s⟩, ?_⟩
  exact ⟨rfl, rfl, rfl, rfl, rfl, rfl, rfl, rfl, rfl, rfl, rfl⟩

end

/-! PROOFS. The layouts of the groups of Statistics Read and of the entries of Capture Read (R197, R198). -/

namespace Sys2Proof.Machine

/-! ### Records of one size one after the other -/

section records
variable {α : Type} {put : α → List Byte} {n : Nat}

theorem length_flatMap_of_mem {l : List α} (h : ∀ a ∈ l, (put a).length = n) :
    (l.flatMap put).length = n * l.length := by
  induction l with
  | nil => rfl
  | cons a l ih =>
    rw [List.flatMap_cons, List.length_append, h a List.mem_cons_self, ih fun b hb => h b (List.mem_cons_of_mem _ hb),
      List.length_cons]
    ring

/-- The record of a number is what stands at that many times the size of one. -/
theorem bytesAt_flatMap {l : List α} (h : ∀ a ∈ l, (put a).length = n) {k : Nat} {a : α} (hk : l[k]? = some a) :
    bytesAt (l.flatMap put) (n * k) n = put a := by
  obtain ⟨hlt, rfl⟩ := List.getElem?_eq_some_iff.1 hk
  have hsplit : l.flatMap put = (l.take k).flatMap put ++ (put l[k] ++ (l.drop (k + 1)).flatMap put) := by
    rw [← List.flatMap_cons, ← List.flatMap_append]
    simp
  have hstart : ((l.take k).flatMap put).length = n * k := by
    rw [length_flatMap_of_mem fun b hb => h b (List.mem_of_mem_take hb), List.length_take, Nat.min_eq_left (by omega)]
  have := bytesAt_append (put l[k]) ((l.drop (k + 1)).flatMap put) hstart
  rw [h _ (List.getElem_mem hlt)] at this
  rw [hsplit, this]

end records

/-! ### Ports and queues (R43, R198) -/

section groups
variable (s : State)

theorem portData_eq (p : Port) : portData s p = (portLayout s p).flatMap Prod.snd := by
  simp [portData, portLayout, bigEndian_two, bigEndian_four, bigEndian_zero, flagByte_eq,
    State.arrivals]

theorem portData_length (p : Port) : (portData s p).length = 24 := by simp [portData]

theorem portLayout_follows (p : Port) : follows 0 (portLayout s p) := by
  simp [portLayout, follows, bigEndian_length]

theorem allPorts_portNumber (p : Port) : allPorts[portNumber p]? = some p := by cases p <;> rfl

theorem portGroup_laidOut (first count : Nat) : (groupData s 1 first count).length = 124 ∧
    (∀ p, fieldsAt (groupData s 1 first count) (24 * portNumber p) (portLayout s p)) ∧
    fieldsAt (groupData s 1 first count) 120 [(0, bigEndian 4 s.store.noCell.toNat)] := by
  have hports : (allPorts.flatMap (portData s)).length = 120 := length_flatMap_of_length (portData_length s) allPorts
  refine ⟨?_, fun p => ?_, ?_⟩
  · rw [groupData, List.length_append, hports, put32_length]
  · have := fieldsAt_getElem (portData_eq s) (portLayout_follows s) (portData_length s) [] (put32 s.store.noCell.toNat)
      (allPorts_portNumber p) (o := 0) rfl
    rwa [Nat.zero_add] at this
  · have := fieldsAt_of_follows (fields := [(0, bigEndian 4 s.store.noCell.toNat)]) (start := 120) (o := 0)
      [] ⟨rfl, trivial⟩ hports
    simpa [groupData, bigEndian_four] using this

theorem queueData_eq (e : Port × Class) : queueData s e.1 e.2 = (queueLayout s e.1 e.2).flatMap Prod.snd := by
  simp [queueData, queueLayout, bigEndian_two, bigEndian_four]

theorem queueData_length (e : Port × Class) : (queueData s e.1 e.2).length = 24 := by simp [queueData]

theorem queueLayout_follows (e : Port × Class) : follows 0 (queueLayout s e.1 e.2) := by
  simp [queueLayout, follows, bigEndian_length]

/-- The queues of the part in the order of the QUEUES group: by port, then by class. -/
def allQueues : List (Port × Class) := allPorts.flatMap fun p => allClasses.map fun c => (p, c)

theorem allQueues_number (p : Port) (c : Class) : allQueues[4 * portNumber p + c.val]? = some (p, c) := by
  revert c
  cases p <;> decide

theorem flatMap_allQueues (f : Port → Class → List Byte) :
    (allPorts.flatMap fun p => allClasses.flatMap fun c => f p c) = allQueues.flatMap fun e => f e.1 e.2 := by
  rw [allQueues, List.flatMap_assoc]
  simp only [List.flatMap_map]

/-- The turn and credit of a port in the QUEUES group (R43). -/
def schedulerLayout (p : Port) : List (Nat × List Byte) :=
  [(0, bigEndian 1 (s.store.port p).turn.val), (1, bigEndian 1 (s.store.port p).credit)]

theorem queueGroup_laidOut (first count : Nat) : (groupData s 2 first count).length = 496 ∧
    (∀ p c, fieldsAt (groupData s 2 first count) (24 * (4 * portNumber p + c.val)) (queueLayout s p c)) ∧
    (∀ p, fieldsAt (groupData s 2 first count) (480 + 2 * portNumber p) (schedulerLayout s p)) ∧
    fieldsAt (groupData s 2 first count) 490
      [(0, bigEndian 2 s.store.free), (2, bigEndian 2 s.store.least), (4, bigEndian 2 0)] := by
  let scheduler := fun p => put8 (s.store.port p).turn.val ++ put8 (s.store.port p).credit
  have hqueues : (allQueues.flatMap fun e => queueData s e.1 e.2).length = 480 :=
    length_flatMap_of_length (queueData_length s) allQueues
  have hschedulers : (allPorts.flatMap scheduler).length = 10 :=
    length_flatMap_of_length (n := 2) (fun _ => rfl) allPorts
  have hdata : groupData s 2 first count = (allQueues.flatMap fun e => queueData s e.1 e.2) ++
      (allPorts.flatMap scheduler) ++ (put16 s.store.free ++ put16 s.store.least ++ zeros 2) := by
    rw [← flatMap_allQueues fun p c => queueData s p c]
    simp only [groupData, List.append_assoc, scheduler]
  refine ⟨?_, fun p c => ?_, fun p => ?_, ?_⟩
  · rw [hdata, List.length_append, List.length_append, hqueues, hschedulers]
    rfl
  · have := fieldsAt_getElem (queueData_eq s) (queueLayout_follows s) (queueData_length s) []
      (allPorts.flatMap scheduler ++ (put16 s.store.free ++ put16 s.store.least ++ zeros 2)) (allQueues_number p c)
      (o := 0) rfl
    rwa [Nat.zero_add, List.nil_append, ← List.append_assoc, ← hdata] at this
  · have := fieldsAt_getElem (put := scheduler) (layout := schedulerLayout s)
      (fun p => by simp [scheduler, schedulerLayout, bigEndian_one])
      (fun p => ⟨rfl, rfl, trivial⟩) (n := 2) (fun _ => rfl) (allQueues.flatMap fun e => queueData s e.1 e.2)
      (put16 s.store.free ++ put16 s.store.least ++ zeros 2) (allPorts_portNumber p) hqueues
    rwa [← hdata] at this
  · have := fieldsAt_of_follows
      (fields := [(0, bigEndian 2 s.store.free), (2, bigEndian 2 s.store.least), (4, bigEndian 2 0)]) (start := 490)
      (o := 0) [] ⟨rfl, rfl, rfl, trivial⟩
      (show ((allQueues.flatMap fun e => queueData s e.1 e.2) ++ allPorts.flatMap scheduler).length = 490 + 0 by
        rw [List.length_append, hqueues, hschedulers])
    rw [hdata]
    simpa [bigEndian_two, bigEndian_zero] using this

/-! ### Descriptors and links (R17, R71, R198) -/

theorem bearerData_eq (i : Nat) : bearerData s i = (bearerCountLayout (s.bearer i)).flatMap Prod.snd := by
  simp [bearerData, bearerCountLayout, bigEndian_four, State.bearer]

theorem bearerData_length (i : Nat) : (bearerData s i).length = 12 := by simp [bearerData]

theorem bearerCountLayout_follows (d : Descriptor) : follows 0 (bearerCountLayout d) := by
  simp [bearerCountLayout, follows, bigEndian_length]

theorem range_getElem? {k count : Nat} (hk : k < count) : (List.range count)[k]? = some k := by simp [hk]

theorem bearerGroup_laidOut (first count : Nat) : (groupData s 3 first count).length = 12 * count ∧ ∀ k < count,
    fieldsAt (groupData s 3 first count) (12 * k) (bearerCountLayout (s.bearer (first + k))) := by
  refine ⟨?_, fun k hk => ?_⟩
  · exact (length_flatMap_of_length (fun k => bearerData_length s (first + k)) _).trans (by rw [List.length_range])
  · have := fieldsAt_getElem (put := fun k => bearerData s (first + k)) (fun k => bearerData_eq s (first + k))
      (fun _ => bearerCountLayout_follows _) (fun k => bearerData_length s (first + k)) [] [] (range_getElem? hk) rfl
    simpa [groupData] using this

theorem craneData_eq (i : Nat) : craneData s i = (craneCountLayout (s.links.get i).counts).flatMap Prod.snd :=
  putCraneCounts_eq _

theorem craneGroup_laidOut (first count : Nat) : (groupData s 4 first count).length = 22 * count ∧ ∀ k < count,
    ∀ l : Link, l.val = first + k →
      fieldsAt (groupData s 4 first count) (22 * k) (craneCountLayout (s.link l).counts) := by
  have hlen : ∀ k, (craneData s (first + k)).length = 22 := fun _ => rfl
  refine ⟨?_, fun k hk l hl => ?_⟩
  · exact (length_flatMap_of_length hlen _).trans (by rw [List.length_range])
  · have := fieldsAt_getElem (put := fun k => craneData s (first + k)) (fun k => craneData_eq s (first + k))
      (fun _ => craneCountLayout_follows _) hlen [] [] (range_getElem? hk) rfl
    rw [State.link, hl]
    simpa [groupData] using this

/-! ### Coverage and registry (R109, R136, R198) -/

/-- A count over the numbers below a bound is a count over the indices. -/
theorem length_filter_range {n : Nat} {p : Nat → Bool} {q : Fin n → Bool} (h : ∀ i : Fin n, p i.val = q i) :
    ((List.range n).filter p).length = ((List.finRange n).filter q).length := by
  rw [← List.map_coe_finRange_eq_range, List.filter_map, List.length_map]
  exact congrArg List.length (List.filter_congr fun i _ => h i)

theorem coverTotal_eq {s : State} (h : s.canonical) (c : CoverState) : coverTotal s c = s.coverNumber c := by
  obtain ⟨-, -, -, -, -, -, -, -, -, -, hcover, -⟩ := h
  exact Table.countBelow_eq _ _ _ hcover

theorem freshTotal_eq {s : State} (h : s.canonical) (f : Freshness) : freshTotal s f = s.freshNumber f := by
  obtain ⟨-, -, -, -, -, -, -, -, -, -, -, hslots, -⟩ := h
  rw [freshTotal, Table.countBelow_eq _ _ _ hslots, State.freshNumber]
  exact length_filter_range fun i => by rw [Bool.decide_and, Bool.decide_eq_true, State.slot]

theorem coverageGroup_laidOut {s : State} (h : s.canonical) (first count : Nat) :
    laidOut (groupData s 5 first count) 28 (coverageLayout s) :=
  laidOut_of_follows (by simp [groupData, coverageLayout, bigEndian_two, bigEndian_four, coverTotal_eq h])
    (by simp [groupData]) (by simp [coverageLayout, follows, bigEndian_length])

theorem registryGroup_laidOut {s : State} (h : s.canonical) (first count : Nat) :
    laidOut (groupData s 6 first count) 28 (registryLayout s) :=
  laidOut_of_follows (by simp [groupData, registryLayout, bigEndian_two, bigEndian_four, freshTotal_eq h])
    (by simp [groupData]) (by simp [registryLayout, follows, bigEndian_length])

/-! ### The other groups (R149, R161, R178, R189, R198) -/

theorem putFlag_eq (b : Bool) : put8 (bitsOf [b]) = putFlag b := by simp [bitsOf, putFlag]

theorem summaryGroup_laidOut (first count : Nat) : laidOut (groupData s 7 first count) 32 (summaryLayout s) := by
  have hhead : s.registry.changeList.head?.isSome = !s.registry.changeList.isEmpty := by
    cases s.registry.changeList <;> rfl
  exact laidOut_of_follows
    (by simp [groupData, summaryLayout, bigEndian_one, bigEndian_two, bigEndian_four, flagByte_eq, flagBits_eq,
      putFlag_eq, hhead])
    (by simp [groupData]) (by simp [summaryLayout, follows, bigEndian_length])

theorem noticeGroup_laidOut (first count : Nat) : laidOut (groupData s 8 first count) 32
    (noticeGroupLayout s.notices ((lowestLevel s.notices.queue).getD 0)) :=
  laidOut_of_follows
    (by simp [groupData, noticeGroupLayout, bigEndian_one, bigEndian_two, bigEndian_four, flagByte_eq, flagBits_eq,
      putFlag_eq, timeBytes_eq])
    (by simp [groupData]) (by simp [noticeGroupLayout, follows, bigEndian_length])

theorem captureGroup_laidOut (first count : Nat) :
    laidOut (groupData s 9 first count) 20 (captureGroupLayout s.capture) :=
  laidOut_of_follows
    (by simp [groupData, captureGroupLayout, bigEndian_one, bigEndian_two, bigEndian_four, bigEndian_zero,
      flagBits_eq])
    (by simp [groupData]) (by simp [captureGroupLayout, follows, bigEndian_length])

theorem managementGroup_laidOut (first count : Nat) :
    laidOut (groupData s 10 first count) 12 (managementLayout s.endpoint) :=
  laidOut_of_follows (by simp [groupData, managementLayout, bigEndian_two, bigEndian_four])
    (by simp [groupData]) (by simp [managementLayout, follows, bigEndian_length])

/-- A group the part knows has the size that is asked for (R184, R189). -/
theorem groupData_length {group : Nat} (h1 : 1 ≤ group) (h2 : group ≤ 10) (first count : Nat) :
    (groupData s group first count).length = groupSize group count := by
  obtain ⟨hports, -⟩ := portGroup_laidOut s first count
  obtain ⟨hqueues, -⟩ := queueGroup_laidOut s first count
  obtain ⟨hbearers, -⟩ := bearerGroup_laidOut s first count
  obtain ⟨hcranes, -⟩ := craneGroup_laidOut s first count
  interval_cases group
  · exact hports
  · exact hqueues
  · exact hbearers
  · exact hcranes
  · simp [groupData, groupSize]
  · simp [groupData, groupSize]
  · exact (summaryGroup_laidOut s first count).1
  · exact (noticeGroup_laidOut s first count).1
  · exact (captureGroup_laidOut s first count).1
  · exact (managementGroup_laidOut s first count).1

end groups

/-! ### Capture Read (R176, R197) -/

theorem captureStatus_laidOut (u : CaptureUnit) (returned : Nat) :
    laidOut (captureStatus u returned) 12 (captureStatusLayout u returned) :=
  laidOut_of_follows
    (by simp [captureStatus, captureStatusLayout, bigEndian_one, bigEndian_two, flagBits_eq])
    (by simp [captureStatus]) (by simp [captureStatusLayout, follows, bigEndian_length])

theorem putCaptureEntry_laidOut (e : CaptureEntry) : laidOut (putCaptureEntry e) 16 (captureEntryLayout e) := by
  have hsequence : put16 ((e.identity.map fun i => i.2.toNat).getD 0) = sequenceBytes (e.identity.map Prod.snd) := by
    cases e.identity <;> simp [sequenceBytes, bigEndian_two]
  refine laidOut_of_follows ?_ (by simp [putCaptureEntry]) (by simp [captureEntryLayout, follows, bigEndian_length])
  cases hc : e.cls <;>
    simp [putCaptureEntry, captureEntryLayout, placeByte, hc, hsequence, bigEndian_one, bigEndian_two, bigEndian_four,
      flagBits_eq, putFlag_eq]

end Sys2Proof.Machine

/-! PROOFS. The commands that read, and which carried commands reach no owner (O57). -/

namespace Sys2Proof.Machine

/-! ### A command that returns data -/

theorem runCommand_returned {s : State} {data : List Byte} {owner : State → Ruling × State} (h : s.alone) (code : Byte)
    (size : Nat) (ho : owner s = (okData data, s)) : runCommand code size owner s = s.returned code data := by
  rw [runCommand_alone h, ho]
  rfl

/-! ### Read Entries (R186) -/

section readEntries
variable {s : State} {table n size first count : Nat}

theorem readTable_known (ht : tableShape table = some (n, size)) (s : State) : readTable table first count s =
    if rangeCode n first count = .ok then
      (okData ((List.range count).flatMap fun k => entryData s table (first + k)), s)
    else (ruling (rangeCode n first count), s) := by
  unfold readTable
  simp only [ht]

theorem readTable_refused (ht : tableShape table = some (n, size)) {r : ResultCode}
    (hr : rangeCode n first count = r) (hn : r ≠ .ok) (s : State) : readTable table first count s = (ruling r, s) := by
  rw [readTable_known ht, hr, if_neg hn]

/-- An entry of a table has the size of the table's entries (R198). -/
theorem entryData_length (hs : s.sizesLegal) (ht : tableShape table = some (n, size)) {i : Nat} (hi : i < n) :
    (entryData s table i).length = size := by
  unfold tableShape at ht
  split at ht <;> cases ht
  next => exact (entry_settings s i).1
  next => exact (entry_managers s i).1
  next => exact (entry_cells s i).1
  next => exact (entry_geometry s i).1
  next => exact (entry_bearers s i).1
  next => exact (entry_cranes s hs ⟨i, hi⟩).1
  next => exact (entry_paths s i).1
  next => exact (entry_profiles s i).1
  next => exact (entry_reefers s hs ⟨i, hi⟩).1
  next => exact (entry_coverage s i).1

/-- The entries of a range stand one after the other in what Read Entries returns. -/
theorem readData_entries (hs : s.sizesLegal) (ht : tableShape table = some (n, size)) (hr : first + count ≤ n) :
    ((List.range count).flatMap fun k => entryData s table (first + k)).length = count * size ∧ ∀ k < count,
      bytesAt ((List.range count).flatMap fun k => entryData s table (first + k)) (k * size) size =
        entryData s table (first + k) := by
  have hlen : ∀ k ∈ List.range count, (entryData s table (first + k)).length = size := fun k hk => by
    have := List.mem_range.1 hk
    exact entryData_length hs ht (by omega)
  refine ⟨?_, fun k hk => ?_⟩
  · rw [length_flatMap_of_mem hlen, List.length_range, Nat.mul_comm]
  · rw [Nat.mul_comm]
    exact bytesAt_flatMap hlen (range_getElem? hk)

end readEntries

/-! ### Statistics Read (R189) -/

section statistics
variable {group : Byte} {first count : Nat}

theorem groupCode_unknown (h : group.toNat < 1 ∨ 10 < group.toNat) : groupCode group.toNat first count = .badValue := by
  unfold groupCode
  split
  next hg => omega
  next hg => omega
  next => exact if_neg (by rw [within_iff]; omega)

theorem groupCode_whole (h1 : 1 ≤ group.toNat) (h2 : group.toNat ≤ 10) (h3 : group ≠ 3) (h4 : group ≠ 4) :
    groupCode group.toNat first count = .ok := by
  unfold groupCode
  split
  next hg => exact absurd (BitVec.eq_of_toNat_eq hg) h3
  next hg => exact absurd (BitVec.eq_of_toNat_eq hg) h4
  next => exact if_pos (within_iff.2 ⟨h1, h2⟩)

theorem groupCode_ranged (h : group = 3 ∨ group = 4) :
    groupCode group.toNat first count = rangeCode (if group = 3 then 4096 else 16) first count := by
  rcases h with rfl | rfl <;> rfl

theorem exec_statisticsRead {s : State} (h : s.alone) (group : Byte) (first count : Nat) :
    (∀ r, groupCode group.toNat first count = r → r ≠ .ok →
      exec (.statisticsRead group first count) s = .next (s.ruled 7 r)) ∧
    (groupCode group.toNat first count = .ok →
      exec (.statisticsRead group first count) s = .next (s.returned 7 (groupData s group.toNat first count))) :=
  ⟨fun _ hr hn => congrArg _ (runCommand_ruled h 7 _ ((if_neg (hr ▸ hn)).trans (by rw [hr]))),
    fun hr => congrArg _ (runCommand_returned h 7 _ (if_pos hr))⟩

end statistics

/-! ### Commands that are decoded (R183, R196) -/

/-- The carried command is of a row with its own code, not of BAD_COMMAND. -/
def Reached (i : Instr) (code : Byte) : Prop := managementCode i = some code ∧ ∀ v, i ≠ .badCommand v

/-- A Write Entry names a table the part does not know (R183 test 4). -/
abbrev unknownTable (w : WireCommand) : Prop := (byteAt w.args 0).toNat < 1 ∨ 10 < (byteAt w.args 0).toNat

/-- A Write Entry carries less than the configuration part of its table (R183 test 4, R198). -/
abbrev cutShort (w : WireCommand) : Prop := ∃ size,
  ((byteAt w.args 0).toNat, size) ∈ [(1, 6), (2, 6), (3, 4), (4, 1), (5, 10), (6, 86), (7, 2), (8, 24), (9, 14)] ∧
    w.args.length < 4 + size

theorem fixedArguments_none_iff {code : Byte} : fixedArguments code = none ↔ code.toNat < 1 ∨ 13 < code.toNat := by
  unfold fixedArguments
  generalize code.toNat = n
  refine ⟨fun h => ?_, fun h => ?_⟩
  · by_contra hn
    obtain ⟨h1, h2⟩ : 1 ≤ n ∧ n ≤ 13 := by omega
    interval_cases n <;> cases h
  · split
    case h_14 => rfl
    all_goals omega

theorem tooShort_iff {w : WireCommand} {n : Nat} : w.tooShort n = true ↔ w.carried.toNat < 4 ∨ w.args.length < n := by
  simp [WireCommand.tooShort]

theorem decodeSettingWrite_reached (index : Nat) (value : BitVec 48) : Reached (decodeSettingWrite index value) 3 := by
  unfold decodeSettingWrite
  split
  · exact ⟨rfl, nofun⟩
  split
  · exact ⟨rfl, nofun⟩
  split
  · exact ⟨rfl, nofun⟩
  split
  · exact ⟨rfl, nofun⟩
  split
  · exact ⟨rfl, nofun⟩
  · exact ⟨rfl, nofun⟩

section
variable {w : WireCommand} {t size : Nat} {i : Instr}

/-- A Write Entry whose table has a configuration part of some size is cut short exactly when it carries less. -/
theorem decodeWrite_of_size (h : 4 ≤ w.args.length) (ht : (byteAt w.args 0).toNat = t) (h1 : 1 ≤ t) (h10 : t ≤ 10)
    (hs : ∀ z, (t, z) ∈ [(1, 6), (2, 6), (3, 4), (4, 1), (5, 10), (6, 86), (7, 2), (8, 24), (9, 14)] ↔ z = size)
    (hd : decodeWrite w = if (w.args.drop 4).length < size then .badCommand w else i) (hi : Reached i 3) :
    (unknownTable w ∨ cutShort w → decodeWrite w = .badCommand w) ∧
    (¬unknownTable w → ¬cutShort w → Reached (decodeWrite w) 3) := by
  have hcut : cutShort w ↔ (w.args.drop 4).length < size := by
    unfold cutShort
    rw [ht, List.length_drop]
    simp only [hs, exists_eq_left]
    omega
  have hknown : ¬unknownTable w := by unfold unknownTable; omega
  rw [hd, hcut]
  exact ⟨fun hb => if_pos (hb.resolve_left hknown), fun _ hn => by rwa [if_neg hn]⟩

end

theorem decodeWrite_cases {w : WireCommand} (h : 4 ≤ w.args.length) :
    (unknownTable w ∨ cutShort w → decodeWrite w = .badCommand w) ∧
    (¬unknownTable w → ¬cutShort w → Reached (decodeWrite w) 3) := by
  obtain ⟨t, ht⟩ : ∃ t, (byteAt w.args 0).toNat = t := ⟨_, rfl⟩
  by_cases hknown : 1 ≤ t ∧ t ≤ 10
  · obtain ⟨h1, h10⟩ := hknown
    have hequation := decodeWrite.eq_def w
    simp only [ht] at hequation
    interval_cases t
    · exact decodeWrite_of_size h ht h1 h10 (by simp) hequation (decodeSettingWrite_reached _ _)
    on_goal 9 =>
      have hnot : ¬(unknownTable w ∨ cutShort w) := by simp [unknownTable, cutShort, ht]
      exact ⟨fun hb => absurd hb hnot, fun _ _ => hequation ▸ ⟨rfl, nofun⟩⟩
    all_goals exact decodeWrite_of_size h ht h1 h10 (by simp) hequation ⟨rfl, nofun⟩
  · have hbad : decodeWrite w = .badCommand w := by
      unfold decodeWrite
      rw [ht]
      split
      case h_11 => rfl
      all_goals omega
    exact ⟨fun _ => hbad, fun hn => absurd (by unfold unknownTable; omega) hn⟩

theorem decodeClear_cases {w : WireCommand} : (unknownTable w → decodeClear w = .badCommand w) ∧
    (¬unknownTable w → Reached (decodeClear w) 4) := by
  unfold decodeClear unknownTable
  generalize (byteAt w.args 0).toNat = t
  refine ⟨fun h => ?_, fun h => ?_⟩
  · split
    case h_11 => rfl
    all_goals omega
  · obtain ⟨h1, h10⟩ : 1 ≤ t ∧ t ≤ 10 := by omega
    interval_cases t <;> exact ⟨rfl, nofun⟩

/-! ### Which carried commands reach an owner (R183) -/

section
variable {w : WireCommand} {n : Nat}

theorem decodeCommand_unknown (h : w.code.toNat < 1 ∨ 13 < w.code.toNat) : decodeCommand w = .badCommand w := by
  unfold decodeCommand
  simp only [fixedArguments_none_iff.2 h]

theorem decodeCommand_short (hn : fixedArguments w.code = some n) (h : w.carried.toNat < 4 ∨ w.args.length < n) :
    decodeCommand w = .badCommand w := by
  unfold decodeCommand
  simp only [hn]
  exact if_pos (tooShort_iff.2 h)

theorem decodeCommand_write (hc : w.code = 3) (h : 4 ≤ w.carried.toNat) (hl : 4 ≤ w.args.length) :
    decodeCommand w = decodeWrite w := by
  have hs : ¬w.tooShort 4 = true := by rw [tooShort_iff]; omega
  unfold decodeCommand
  rw [hc]
  exact if_neg hs

theorem decodeCommand_clear (hc : w.code = 4) (h : 4 ≤ w.carried.toNat) (hl : 6 ≤ w.args.length) :
    decodeCommand w = decodeClear w := by
  have hs : ¬w.tooShort 6 = true := by rw [tooShort_iff]; omega
  unfold decodeCommand
  rw [hc]
  exact if_neg hs

/-- A command long enough for its code reaches its owner, a Write Entry or Clear Entries on a table the part knows. -/
theorem decodeCommand_reached (hn : fixedArguments w.code = some n) (h : 4 ≤ w.carried.toNat) (hl : n ≤ w.args.length)
    (hwrite : w.code = 3 → ¬unknownTable w ∧ ¬cutShort w) (hclear : w.code = 4 → ¬unknownTable w) :
    Reached (decodeCommand w) w.code := by
  have hs : ¬w.tooShort n = true := by rw [tooShort_iff]; omega
  obtain ⟨h1, h13⟩ : 1 ≤ w.code.toNat ∧ w.code.toNat ≤ 13 := by
    by_contra hc
    rw [fixedArguments_none_iff.2 (by omega)] at hn
    cases hn
  have hequation := decodeCommand.eq_def w
  simp only [hn, if_neg hs] at hequation
  obtain ⟨k, hk⟩ : ∃ k, w.code.toNat = k := ⟨_, rfl⟩
  have hcode : w.code = BitVec.ofNat 8 k := by rw [← hk, BitVec.ofNat_toNat, BitVec.setWidth_eq]
  simp only [hk] at hequation
  rw [hequation, hcode]
  rw [hk] at h1 h13
  interval_cases k
  on_goal 3 =>
    rw [hcode] at hn
    cases hn
    exact (decodeWrite_cases hl).2 (hwrite hcode).1 (hwrite hcode).2
  on_goal 3 => exact decodeClear_cases.2 (hclear hcode)
  all_goals exact ⟨rfl, nofun⟩

theorem exec_badCommand {s : State} (h : s.alone) (w : WireCommand) :
    exec (.badCommand w) s = .next (s.ruled w.code (badCommandResult w)) :=
  congrArg _ (runCommand_ruled h w.code 0 rfl)

theorem badCommandResult_unknown (h : w.code.toNat < 1 ∨ 13 < w.code.toNat) : badCommandResult w = .badCommand := by
  unfold badCommandResult
  simp only [fixedArguments_none_iff.2 h]

theorem badCommandResult_known (hn : fixedArguments w.code = some n) : badCommandResult w =
    if w.tooShort n then .badValue else if within 1 10 (byteAt w.args 0).toNat then .badValue else .badTable := by
  unfold badCommandResult
  simp only [hn]

end

end Sys2Proof.Machine

section
open Sys2Proof Sys2Proof.Machine

/-- Settles O57: each read is judged by its range and returns its records one after the other, and a carried command is
decoded by its code, its length and its table. -/
theorem commandsThatRead : Obligations.CommandsThatRead := by
  intro s h
  refine ⟨congrArg _ (runCommand_returned h 1 20 rfl), fun table first count => ⟨fun ht => ?_, fun n size ht =>
    ⟨fun hc => ?_, fun hc hb => ?_, fun hc hr => ⟨?_, fun hs => readData_entries hs ht hr⟩⟩⟩, rfl,
    fun group first count => ?_, fun first count => ?_, fun offset count => ?_, rfl, fun w => ?_⟩
  · refine congrArg _ (runCommand_ruled h 2 _ ?_)
    unfold readTable
    simp only [ht]
  · subst hc
    exact congrArg _ (runCommand_ruled h 2 _ (readTable_refused ht (rangeCode_zero n first) (by decide) s))
  · exact congrArg _ (runCommand_ruled h 2 _ (readTable_refused ht (rangeCode_beyond hc hb) (by decide) s))
  · exact congrArg _ (runCommand_returned h 2 _ ((readTable_known ht s).trans (if_pos (rangeCode_within hc hr))))
  · intro whole entries
    obtain ⟨hrefused, hread⟩ := exec_statisticsRead h group first count
    refine ⟨fun hg => hrefused _ (groupCode_unknown hg) (by decide), fun hg hc => hrefused _ ?_ (by decide),
      fun hg hc hb => hrefused _ ((groupCode_ranged hg).trans (rangeCode_beyond hc hb)) (by decide), fun hg => ?_⟩
    · rw [groupCode_ranged hg, hc]
      exact rangeCode_zero _ _
    · have hok : 1 ≤ group.toNat ∧ group.toNat ≤ 10 ∧ groupCode group.toNat first count = .ok := by
        rcases hg with ⟨h1, h10, h3, h4⟩ | ⟨hg, hc, hr⟩
        · exact ⟨h1, h10, groupCode_whole h1 h10 h3 h4⟩
        · refine ⟨?_, ?_, (groupCode_ranged hg).trans (rangeCode_within hc hr)⟩ <;>
            rcases hg with rfl | rfl <;> decide
      obtain ⟨h1, h10, hcode⟩ := hok
      exact ⟨hread hcode, groupData_length s h1 h10 first count⟩
  · refine ⟨portGroup_laidOut s first count, queueGroup_laidOut s first count, bearerGroup_laidOut s first count,
      craneGroup_laidOut s first count, fun hc => ⟨coverageGroup_laidOut hc first count,
        registryGroup_laidOut hc first count⟩, summaryGroup_laidOut s first count, fun hq => ?_, fun low hm hle => ?_,
      captureGroup_laidOut s first count, managementGroup_laidOut s first count⟩
    · have := noticeGroup_laidOut s first count
      rwa [hq] at this
    · have := noticeGroup_laidOut s first count
      rwa [lowestLevel_eq hm hle] at this
  · intro held
    have hentries := fun e (_ : e ∈ held) => (putCaptureEntry_laidOut e).1
    have hlength := length_flatMap_of_mem hentries
    have hdata : captureData s.capture offset count = captureStatus s.capture held.length ++
        held.flatMap putCaptureEntry ++ zeros (16 * count - 16 * held.length) := by
      rw [captureData, padTo, hlength, List.append_assoc]
    have hrefused : ∀ r, captureReadCode offset count = r → r ≠ .ok →
        exec (.captureRead offset count) s = .next (s.ruled 11 r) := fun r hr hn =>
      congrArg _ (runCommand_ruled h 11 _ ((if_neg (hr ▸ hn)).trans (by rw [hr])))
    refine ⟨fun ho => hrefused _ (if_pos ho) (by decide), fun ho hc => hrefused _ ?_ (by decide), fun ho h1 h32 =>
      ⟨?_, captureStatus_laidOut _ _, hlength, fun k e hk => ?_⟩⟩
    · exact (if_neg (by omega)).trans (if_neg (by rw [within_iff]; omega))
    · rw [← hdata]
      exact congrArg _ (runCommand_returned h 11 _ (if_pos ((if_neg (by omega)).trans
        (if_pos (within_iff.2 ⟨h1, h32⟩)))))
    · rw [bytesAt_flatMap hentries hk]
      exact putCaptureEntry_laidOut e
  · refine ⟨decodeCommand_unknown, fun n hn hb => decodeCommand_short hn hb, fun hc => ?_, fun hb => ?_,
      fun n hn hb => ?_, fun n hn hc hl => ⟨fun hb => ?_, fun h1 h10 => ?_⟩⟩
    · exact ⟨fun h3 hl hb => (decodeCommand_write h3 hc hl).trans ((decodeWrite_cases hl).1 hb), fun h4 hl hb =>
        (decodeCommand_clear h4 hc hl).trans (decodeClear_cases.1 hb), fun n hn hl hwrite hclear =>
        decodeCommand_reached hn hc hl hwrite hclear⟩
    · rw [exec_badCommand h, badCommandResult_unknown hb]
    · rw [exec_badCommand h, badCommandResult_known hn, if_pos (tooShort_iff.2 hb)]
    · rw [exec_badCommand h, badCommandResult_known hn, if_neg (by rw [tooShort_iff]; omega),
        if_neg (by rw [within_iff]; omega)]
    · rw [exec_badCommand h, badCommandResult_known hn, if_neg (by rw [tooShort_iff]; omega),
        if_pos (within_iff.2 ⟨h1, h10⟩)]

end

/-! PROOFS. The hold order a link composes (O32). -/

namespace Sys2Proof.Machine

/-- Two bytes put are read as the number put, cut to them (R192). -/
theorem append_put16 (n : Nat) : BitVec.ofNat 8 (n / 256) ++ BitVec.ofNat 8 n = BitVec.ofNat 16 n := by
  refine BitVec.eq_of_toNat_eq ?_
  rw [BitVec.toNat_append, Nat.shiftLeft_eq, Nat.mul_comm, ← Nat.two_pow_add_eq_or_of_lt (BitVec.ofNat 8 n).isLt]
  simp only [BitVec.toNat_ofNat]
  omega

/-- The stamp of a hold order, 8 bytes (R65, R193). -/
def holdStamp (k : CraneLink) (counter : Sequence) (now : QuayTime) : List Byte :=
  put8 (holdReasonCode k.reason) ++ put8 0 ++ put16 counter.toNat ++ put32 now.toNat

/-- The header of a hold order after its cell field is written (R35, R193). -/
def holdHeader (k : CraneLink) (sequence : Sequence) (c : Cell) : List Byte :=
  put8 1 ++ put8 0x80 ++ put8 c.val ++ put16 k.config.bearer.toNat ++ put16 sequence.toNat ++
    put16 (k.config.template.length + 8) ++ put8 0

theorem withCell_holdOrder_data (id : Identity) (bearerType : EtherType) (now : QuayTime) (k : CraneLink)
    (sequence counter : Sequence) (c : Cell) : (withCell (holdOrder id bearerType now k sequence counter) c).data =
      holdHeader k sequence c ++ (k.config.template ++ (holdStamp k counter now ++
        zeros (46 - (18 + k.config.template.length)))) := by
  have hpad : ∀ {content : List Byte} {n : Nat}, content.length = n → padTo 46 content = content ++ zeros (46 - n) :=
    fun h => by rw [padTo, h]
  have hsize : 1 + 1 + 1 + 2 + 2 + 2 + 1 + k.config.template.length + 1 + 1 + 2 + 4 = 18 + k.config.template.length := by
    omega
  simp only [withCell, holdOrder, generated]
  rw [hpad (n := 18 + k.config.template.length) (by
    simp only [List.length_append, put8_length, put16_length, put32_length, hsize])]
  simp only [holdHeader, holdStamp, List.append_assoc]
  rfl

theorem readHeader_holdHeader (k : CraneLink) (sequence : Sequence) (c : Cell) (rest : List Byte)
    (hk : k.config.template.length ≤ 64) : readHeader (holdHeader k sequence c ++ rest) =
      { version := 1, direction := some .down, requested := 0, trailer := false, cell := BitVec.ofNat 8 c.val,
        bearer := k.config.bearer, sequence := sequence, payloadLength := k.config.template.length + 8 } := by
  have hbearer : BitVec.setWidth 12 (BitVec.ofNat 16 k.config.bearer.toNat) = k.config.bearer := by bv_omega
  have hlength : (BitVec.ofNat 16 (k.config.template.length + 8)).toNat = k.config.template.length + 8 := by
    rw [BitVec.toNat_ofNat]; omega
  simp only [readHeader, holdHeader, wordAt, byteAt, put8, put16, List.cons_append, List.nil_append,
    List.getD_cons_zero, List.getD_cons_succ, append_put16, hbearer, hlength]
  simp
  rfl

end Sys2Proof.Machine

section
open Sys2Proof Sys2Proof.Machine

/-- Settles O32: the hold order is its header, the template and the stamp one after the other, padded. -/
theorem holdOrderComposed : Obligations.HoldOrderComposed := by
  intro id bearerType now k c hk n f h
  have hdata := withCell_holdOrder_data id bearerType now k k.holdSequence (k.holdCounter + 1) c
  have hheader : (holdHeader k k.holdSequence c).length = 10 := rfl
  have hread : h = _ := (congrArg readHeader hdata).trans (readHeader_holdHeader k _ c _ hk)
  have hcomposed : composed f _ _ _ (18 + n) := composed_generated _ _ _ _ (by
    simp only [List.length_append, put8_length, put16_length, put32_length]; omega)
  obtain ⟨hdst, hsrc, htype, hlength, hpad⟩ := hcomposed
  rw [hread]
  refine ⟨hdst, hsrc, htype, rfl, rfl, rfl, rfl, rfl, rfl, rfl, ?_, ?_, ?_, ?_, fun _ => hpad⟩
  · unfold CraneLink.holdSequence
    cases k.lastSent <;> rfl
  · rw [hdata]
    exact bytesAt_append _ _ hheader
  · have hstamp := bytesAt_append (a := holdHeader k k.holdSequence c ++ k.config.template)
      (holdStamp k (k.holdCounter + 1) now) (zeros (46 - (18 + k.config.template.length))) (i := 10 + n)
      (by rw [List.length_append, hheader])
    rw [hdata, ← List.append_assoc]
    refine hstamp.trans ?_
    unfold holdStamp
    cases k.reason <;> rfl
  · rw [← hlength]
    exact List.length_set

end

/-! PROOFS. The passes of the Summary Builder and the bytes of a summary frame (O46). -/

namespace Sys2Proof.Machine

/-! ### Frame steps (R143 to R146) -/

section
variable {s : State}

theorem exec_frameStep_of_passing (h : s.summary.passing = true) : exec .frameStep s = .next (stepPass s) :=
  congrArg _ (if_pos h)

theorem stepPass_of_records (h1 : s.setting 49 ≠ 0) (h2 : s.registry.changeList ≠ [])
    (h3 : 2 * (s.store.queue .y 3).entries.length < s.queueLimit .y 3) : stepPass s = sendSummary s := by
  refine (if_neg h1).trans ((if_neg ?_).trans (if_neg (by omega)))
  rwa [List.isEmpty_iff]

/-- The offer of a summary frame (R144). -/
def State.summaryOffer (s : State) : Admission × State :=
  s.offer .y 3 none .summary (summaryFrame s.identity (BitVec.ofNat 48 (s.setting 49)) s.quayTime (s.summary.counter + 1)
    ((s.registry.changeList.take 24).map fun i => (i, s.slot i)))

theorem sendSummary_refused {cause : Cause} (h : s.summaryOffer.1 = .refused cause) : sendSummary s = { s with
    store := s.summaryOffer.2.store
    summary := { s.summary with passing := false, framesRefused := bump16 s.summary.framesRefused } } := by
  unfold State.summaryOffer at h
  unfold sendSummary summaryRecords
  simp only [h]
  rfl

/-- An admitted summary frame leaves the slots but for those packed, and takes these from the list (R145, R146). -/
theorem sendSummary_admitted (h : s.summaryOffer.1 = .admitted) : ∃ slots, sendSummary s = { s with
      store := s.summaryOffer.2.store
      summary := { s.summary with
        counter := s.summary.counter + 1, framesSent := s.summary.framesSent + 1
        recordsSent := s.summary.recordsSent + BitVec.ofNat 32 (s.registry.changeList.take 24).length }
      registry := { s.registry with slots := slots, changeList := s.registry.changeList.drop 24 } } ∧
    ∀ i : Slot, slots.get i.val = if i ∈ s.registry.changeList.take 24 then (s.slot i).summarise else s.slot i := by
  obtain ⟨slots, hfold, -, hget⟩ := foldl_summarise (s.registry.changeList.take 24) s.summaryOffer.2
  refine ⟨slots, ?_, hget⟩
  have hslots : summariseSlots s.summaryOffer.2 = { s with
      store := s.summaryOffer.2.store
      registry := { s.registry with slots := slots, changeList := s.registry.changeList.drop 24 } } := by
    unfold summariseSlots
    exact congrArg (fun t : State =>
      { t with registry := { t.registry with changeList := s.registry.changeList.drop 24 } }) hfold
  unfold State.summaryOffer at h hslots
  unfold sendSummary summaryRecords
  simp only [h, hslots, List.length_map]
  rfl

end

/-! ### Summary frames (R194) -/

theorem putSummaryRecord_eq (i : Slot) (v : ReeferSlot) :
    putSummaryRecord i v = (summaryRecordLayout i v).flatMap Prod.snd := by
  simp only [putSummaryRecord, summaryRecordLayout, bigEndian_one, bigEndian_two, bigEndian_four, tempBytes_eq,
    flagBits_eq, checkBits, List.flatMap_cons, List.flatMap_nil, List.append_assoc, List.append_nil]

theorem summaryRecordLayout_follows (i : Slot) {v : ReeferSlot} (h : v.config.mark.length = 11) :
    follows 0 (summaryRecordLayout i v) := by
  simp [summaryRecordLayout, follows, bigEndian_length, h]

theorem putSummaryRecord_length (i : Slot) {v : ReeferSlot} (h : v.config.mark.length = 11) :
    (putSummaryRecord i v).length = 27 + v.record.alarms.length := by
  simp only [putSummaryRecord, List.length_append, put8_length, put16_length, put32_length, putTemp_length, h]

theorem length_summaryRecords {slots : List (Slot × ReeferSlot)} (h : ∀ e ∈ slots, e.2.config.mark.length = 11) :
    (slots.flatMap fun e => putSummaryRecord e.1 e.2).length =
      (slots.map fun e => 27 + e.2.record.alarms.length).sum := by
  rw [List.length_flatMap]
  exact congrArg List.sum (List.map_congr_left fun e he => putSummaryRecord_length e.1 (h e he))

/-- The header of a summary frame, 10 bytes (R194). -/
def summaryHeader (number : Sequence) (now : QuayTime) (count : Nat) : List Byte :=
  put8 4 ++ put8 0 ++ put16 number.toNat ++ put32 now.toNat ++ put8 count ++ put8 0

theorem summaryFrame_eq (id : Identity) (dst : Address) (now : QuayTime) (number : Sequence)
    (slots : List (Slot × ReeferSlot)) : summaryFrame id dst now number slots =
      generated id dst id.managementEtherType
        (summaryHeader number now slots.length ++ slots.flatMap fun e => putSummaryRecord e.1 e.2) := rfl

end Sys2Proof.Machine

section
open Sys2Proof Sys2Proof.Machine

/-- Settles O46: the branches of the timer and of a frame step are read off one by one; a summary frame is its header and
its records one after the other. -/
theorem summaryPasses : Obligations.SummaryPasses := by
  intro s b armed packed records number offered ready
  have hstep : ready → exec .frameStep s = .next (sendSummary s) := fun ⟨hp, h1, h2, h3⟩ => by
    rw [exec_frameStep_of_passing hp, stepPass_of_records h1 h2 h3]
  have hfree : ∀ {t u : State}, b.passing = false → (if b.passing then t else u) = u := fun hp => by
    rw [hp]
    rfl
  refine ⟨fun h => congrArg _ (if_neg (by rw [h]; decide)), fun h => ⟨fun hp => ?_, fun hp h0 => ?_, fun hp h0 => ?_⟩,
    fun hp => congrArg _ (if_neg (by rw [hp]; decide)), fun hp h0 => ?_, fun hp h0 hl => ?_, fun hp h0 hl hf => ?_,
    fun hr cause hc => ?_, fun hr ha => ?_, fun dst now counter slots hmark => ?_⟩
  · exact congrArg _ ((if_pos h).trans (if_pos hp))
  · exact congrArg _ ((if_pos h).trans ((hfree hp).trans
      (if_pos h0)))
  · exact congrArg _ ((if_pos h).trans ((hfree hp).trans
      (if_neg h0)))
  · exact (exec_frameStep_of_passing hp).trans (congrArg _ (if_pos h0))
  · exact (exec_frameStep_of_passing hp).trans (congrArg _ ((if_neg h0).trans (if_pos (by rw [hl]; rfl))))
  · exact (exec_frameStep_of_passing hp).trans (congrArg _ ((if_neg h0).trans
      ((if_neg (by rwa [List.isEmpty_iff])).trans (if_pos hf))))
  · exact (hstep hr).trans (congrArg _ (sendSummary_refused hc))
  · obtain ⟨slots, ht, hget⟩ := sendSummary_admitted ha
    exact ⟨_, (hstep hr).trans (congrArg _ ht), rfl, hget⟩
  · intro f size
    have hf : f = generated s.identity dst s.identity.managementEtherType _ := summaryFrame_eq _ _ _ _ _
    have hsize : ∀ before : List (Slot × ReeferSlot), (∀ e ∈ before, e.2.config.mark.length = 11) →
        (summaryHeader counter now slots.length ++
          before.flatMap fun e => putSummaryRecord e.1 e.2).length = size before := fun before hb => by
      rw [List.length_append, length_summaryRecords hb]
      rfl
    refine ⟨?_, ?_, fun before e after hs => ?_⟩
    · rw [hf]
      exact composed_generated _ _ _ _ (hsize slots hmark)
    · rw [hf]
      refine fieldsAt_generated (more := slots.flatMap fun e => putSummaryRecord e.1 e.2) ?_ ?_
      · simp only [summaryHeader, bigEndian_one, bigEndian_two, bigEndian_four, List.flatMap_cons, List.flatMap_nil,
          List.append_assoc, List.append_nil]
      · simp [follows, bigEndian_length]
    · have hbefore : ∀ a ∈ before, a.2.config.mark.length = 11 := fun a ha =>
        hmark a (hs ▸ List.mem_append_left _ ha)
      have he : e.2.config.mark.length = 11 := hmark e (hs ▸ List.mem_append_right _ List.mem_cons_self)
      have hfields := fieldsAt_of_follows (start := size before)
        ((after.flatMap fun e => putSummaryRecord e.1 e.2) ++
          zeros (46 - (summaryHeader counter now slots.length ++
            slots.flatMap fun e => putSummaryRecord e.1 e.2).length))
        (summaryRecordLayout_follows e.1 he) (hsize before hbefore)
      rw [hf]
      refine cast (congrArg (fun d => fieldsAt d _ _) ?_) hfields
      simp only [generated, padTo, hs, List.flatMap_append, List.flatMap_cons, ← putSummaryRecord_eq, List.append_assoc]

end

/-! PROOFS. A request laid out as the formats say is read back (O15). -/

namespace Sys2Proof.Machine

theorem wordAt_put16 (v : BitVec 16) (l : List Byte) : wordAt (put16 v.toNat ++ l) 0 = v := by
  show BitVec.ofNat 8 (v.toNat / 256) ++ BitVec.ofNat 8 v.toNat = v
  rw [append_put16, BitVec.ofNat_toNat, BitVec.setWidth_eq]

/-- A command as the formats lay it out: code, a byte that does not matter, carried length and arguments (R196, R197). -/
def putCommand (gaps : WireCommand → Byte) (w : WireCommand) : List Byte :=
  [w.code, gaps w] ++ put16 w.carried.toNat ++ w.args

section
variable {gaps : WireCommand → Byte} {w : WireCommand}

theorem args_length_of_wellFormed (h : w.wellFormed = true) : w.args.length + 4 = max 4 w.carried.toNat := by
  simpa [WireCommand.wellFormed] using h

theorem putCommand_length (h : w.wellFormed = true) : (putCommand gaps w).length = max 4 w.carried.toNat := by
  have hargs := args_length_of_wellFormed h
  simp only [putCommand, List.length_append, List.length_cons, List.length_nil, put16_length]
  omega

theorem readCommands_putCommand (h : w.wellFormed = true) (rest : List Byte) (n : Nat) :
    readCommands (putCommand gaps w ++ rest) (n + 1) = (readCommands rest n).map (w :: ·) := by
  have hargs := args_length_of_wellFormed h
  have hlength := putCommand_length (gaps := gaps) h
  have hword : wordAt (putCommand gaps w ++ rest) 2 = w.carried := by
    rw [putCommand, List.append_assoc, List.append_assoc]
    exact wordAt_put16 w.carried (w.args ++ rest)
  have hbytes : bytesAt (putCommand gaps w ++ rest) 4 (max 4 w.carried.toNat - 4) = w.args := by
    have := bytesAt_append (a := [w.code, gaps w] ++ put16 w.carried.toNat) (i := 4) w.args rest rfl
    rwa [← List.append_assoc, show w.args.length = max 4 w.carried.toNat - 4 by omega] at this
  rw [readCommands]
  simp only [hword, hbytes]
  rw [if_neg (by rw [List.length_append, hlength]; omega), ← hlength, List.drop_left]
  rfl

theorem readCommands_flatMap {commands : List WireCommand} (h : ∀ w ∈ commands, w.wellFormed = true)
    (padding : List Byte) :
    readCommands (commands.flatMap (putCommand gaps) ++ padding) commands.length = some commands := by
  induction commands with
  | nil => rfl
  | cons w commands ih =>
    rw [List.flatMap_cons, List.append_assoc, List.length_cons, readCommands_putCommand (h w List.mem_cons_self),
      ih fun v hv => h v (List.mem_cons_of_mem _ hv)]
    rfl

end

end Sys2Proof.Machine

section
open Sys2Proof Sys2Proof.Machine

/-- Settles O15: the header gives the number of commands, and each is stepped over by its length. -/
theorem requestLayoutReadsBack : Obligations.RequestLayoutReadsBack := by
  intro dst src etherType kind spare tag1 tag2 a b c commands gaps padding h1 h32 hw
  have hcount : (BitVec.ofNat 8 commands.length).toNat = commands.length := by rw [BitVec.toNat_ofNat]; omega
  have hlength : ∀ rest : List Byte,
      ¬(kind :: spare :: tag1 :: tag2 :: BitVec.ofNat 8 commands.length :: a :: b :: c :: rest).length < 8 :=
    fun rest => by simp only [List.length_cons]; omega
  unfold readRequest
  simp only [List.cons_append, List.nil_append, byteAt, List.getD_cons_succ, List.getD_cons_zero, hcount,
    List.drop_succ_cons, List.drop_zero]
  rw [if_neg (not_or.2 ⟨hlength _, by omega⟩)]
  exact congrArg _ (readCommands_flatMap (gaps := gaps) hw padding)

end

/-! PROOFS. What the part does of itself when no command waits (O3). -/

namespace Sys2Proof.Machine

/-! ### The first index of a table that meets a test -/

section tables
variable {α : Type}

theorem Table.mem_of_lookup {l : List (Nat × α)} {j : Nat} {v : α} (h : Table.lookup l j = some v) : (j, v) ∈ l := by
  induction l with
  | nil => cases h
  | cons e l ih =>
    obtain ⟨k, w⟩ := e
    rw [Table.lookup] at h
    split at h
    next hk => cases h; rw [hk]; exact List.mem_cons_self
    next => exact List.mem_cons_of_mem _ (ih h)

variable {t : Table α} {bound i : Nat} {p : α → Bool}

theorem Table.firstBelow_none (h : t.firstBelow bound p = none) (hi : i < bound) : p (t.get i) = false := by
  unfold Table.firstBelow at h
  split at h
  next => simpa using List.find?_eq_none.1 h i (List.mem_range.2 hi)
  next hb =>
    rw [Option.map_eq_none_iff, List.find?_eq_none] at h
    cases hl : Table.lookup t.listed i with
    | none => rw [Table.get, hl, Option.getD_none]; simpa using hb
    | some v =>
      rw [Table.get, hl, Option.getD_some]
      simpa [hi] using h _ (Table.mem_of_lookup hl)

variable [DecidableEq α]

/-- A list in canonical form gives each listed value at its index. -/
theorem Table.lookup_of_mem {blank : α} {l : List (Nat × α)} (h : Table.wfFrom blank l = true) {j : Nat} {v : α}
    (hm : (j, v) ∈ l) : Table.lookup l j = some v := by
  induction l with
  | nil => cases hm
  | cons e l ih =>
    obtain ⟨k, w⟩ := e
    obtain ⟨-, hrise, htail⟩ := (Table.wfFrom_cons blank k w l).1 h
    rcases List.mem_cons.1 hm with heq | hm
    · cases heq
      exact if_pos rfl
    · have hlt := hrise _ hm
      exact (if_neg (Nat.ne_of_lt hlt)).trans (ih htail hm)

theorem Table.firstBelow_some (hw : t.wf = true) (h : t.firstBelow bound p = some i) :
    i < bound ∧ p (t.get i) = true := by
  unfold Table.firstBelow at h
  split at h
  next =>
    exact ⟨List.mem_range.1 (List.mem_of_find?_eq_some h), List.find?_some (p := fun i => p (t.get i)) h⟩
  next =>
    obtain ⟨⟨j, v⟩, hfind, rfl⟩ := Option.map_eq_some_iff.1 h
    have hp := List.find?_some hfind
    simp only [Bool.and_eq_true, decide_eq_true_eq] at hp
    have hget : t.get j = v := by
      rw [Table.get, Table.lookup_of_mem hw (List.mem_of_find?_eq_some hfind), Option.getD_some]
    exact ⟨hp.1, hget ▸ hp.2⟩

end tables

/-! ### Due deadlines (00_scope, "Quay time") -/

theorem firstDue_none {now : QuayTime} {l : List (Option QuayTime × Instr)} (h : firstDue now l = none) {d : QuayTime}
    {i : Instr} (hm : (some d, i) ∈ l) : reached now d = false := by
  induction l with
  | nil => cases hm
  | cons e l ih =>
    obtain ⟨o, j⟩ := e
    unfold firstDue at h
    split at h
    next => cases h
    next hd =>
      rcases List.mem_cons.1 hm with heq | hm
      · cases heq
        exact Bool.not_eq_true _ ▸ hd
      · exact ih h hm

theorem below2048_some {i : Nat} {k : Fin 2048} (h : below2048 i = some k) : i = k.val := by
  unfold below2048 at h
  split at h
  · cases h; rfl
  · cases h

section due
variable {α : Type} [DecidableEq α] {t : Table α} {now : QuayTime} {expiry : Fin 2048 → Instr} {i : Instr}
  {deadline : α → Option QuayTime}

/-- The first due deadline of a table's entries, by the command of its expiry. -/
theorem firstBelow_due (hw : t.wf = true)
    (h : ((t.firstBelow 2048 fun v => due now (deadline v)).bind below2048).map expiry = some i) :
    ∃ k d, i = expiry k ∧ deadline (t.get k.val) = some d ∧ reached now d = true := by
  obtain ⟨k, hk, rfl⟩ := Option.map_eq_some_iff.1 h
  obtain ⟨j, hj, hjk⟩ := Option.bind_eq_some_iff.1 hk
  obtain ⟨-, hdue⟩ := Table.firstBelow_some hw hj
  rw [below2048_some hjk] at hdue
  obtain ⟨d, hd, hr⟩ := due_iff.1 hdue
  exact ⟨k, d, rfl, hd, hr⟩

theorem firstBelow_notDue (h : ((t.firstBelow 2048 fun v => due now (deadline v)).bind below2048).map expiry = none)
    (hw : t.wf = true) {k : Fin 2048} {d : QuayTime} (hd : deadline (t.get k.val) = some d) : reached now d = false := by
  rw [Option.map_eq_none_iff] at h
  cases hf : t.firstBelow 2048 fun v => due now (deadline v) with
  | none =>
    have hdue := Table.firstBelow_none hf k.isLt
    rwa [hd] at hdue
  | some j =>
    rw [hf, Option.bind_some] at h
    have hlt := (Table.firstBelow_some hw hf).1
    rw [below2048, dif_pos hlt] at h
    cases h

end due

section expiries
variable {s : State} {i : Instr}

theorem deadline_of_mem_link {l : Link} {d : QuayTime} (h : (some d, i) ∈ (s.link l).deadlines l) :
    s.deadlineOf i = some d := by
  simp only [CraneLink.deadlines, List.mem_cons, Prod.mk.injEq, List.not_mem_nil, or_false] at h
  rcases h with ⟨h, rfl⟩ | ⟨h, rfl⟩ | ⟨h, rfl⟩ | ⟨h, rfl⟩ | ⟨h, rfl⟩ <;> exact h.symm

/-- An expiry that is queued is that of an armed deadline that has been reached. -/
theorem dueExpiry_some (hc : s.canonical) (h : s.dueExpiry = some i) :
    ∃ d, s.deadlineOf i = some d ∧ reached s.quayTime d = true := by
  obtain ⟨-, -, -, -, -, -, -, -, -, -, hcover, hslots, -⟩ := hc
  unfold State.dueExpiry at h
  simp only [Option.or_eq_some_iff] at h
  rcases h with h | ⟨-, h | ⟨-, h | ⟨-, h | ⟨-, h⟩⟩⟩⟩
  · obtain ⟨d, hd, hr⟩ := firstDue_mem h
    obtain ⟨l, -, hl⟩ := List.mem_flatMap.1 hd
    exact ⟨d, deadline_of_mem_link hl, hr⟩
  · obtain ⟨k, d, rfl, hd, hr⟩ := firstBelow_due hcover h
    exact ⟨d, hd, hr⟩
  · obtain ⟨k, d, rfl, hd, hr⟩ := firstBelow_due hslots h
    exact ⟨d, hd, hr⟩
  · obtain ⟨k, d, rfl, hd, hr⟩ := firstBelow_due hslots h
    exact ⟨d, hd, hr⟩
  · obtain ⟨d, hd, hr⟩ := firstDue_mem h
    simp only [List.mem_cons, Prod.mk.injEq, List.not_mem_nil, or_false] at hd
    rcases hd with ⟨hd, rfl⟩ | ⟨hd, rfl⟩
    · exact ⟨d, hd.symm, hr⟩
    · exact ⟨d, hd.symm, hr⟩

/-- Where no expiry is queued, no armed deadline has been reached. -/
theorem dueExpiry_none (hc : s.canonical) (h : s.dueExpiry = none) {d : QuayTime} (hd : s.deadlineOf i = some d) :
    reached s.quayTime d = false := by
  obtain ⟨-, -, -, -, -, -, -, -, -, -, hcover, hslots, -⟩ := hc
  unfold State.dueExpiry at h
  simp only [Option.or_eq_none_iff] at h
  obtain ⟨hlinks, hage, hstale, hlost, hrest⟩ := h
  have hlink : ∀ {l : Link}, (some d, i) ∈ (s.link l).deadlines l → reached s.quayTime d = false := fun {l} hm =>
    firstDue_none hlinks (List.mem_flatMap.2 ⟨l, List.mem_finRange l, hm⟩)
  cases i with
  | deadlineExpiry l direction => cases direction <;> exact hlink (l := l) (by simp [CraneLink.deadlines, ← hd]; rfl)
  | releaseExpiry l => exact hlink (l := l) (by simp [CraneLink.deadlines, ← hd]; rfl)
  | holdOrderTimeExpiry l => exact hlink (l := l) (by simp [CraneLink.deadlines, ← hd]; rfl)
  | overlapExpiry l => exact hlink (l := l) (by simp [CraneLink.deadlines, ← hd]; rfl)
  | ageDeadlineExpiry k => exact firstBelow_notDue hage hcover hd
  | staleDeadlineExpiry k => exact firstBelow_notDue hstale hslots hd
  | lostDeadlineExpiry k => exact firstBelow_notDue hlost hslots hd
  | summaryTimerExpiry =>
    cases hd
    exact firstDue_none hrest List.mem_cons_self
  | pacingDeadlineExpiry =>
    rw [show s.notices.pacing = some d from hd] at hrest
    exact firstDue_none hrest (List.mem_cons_of_mem _ List.mem_cons_self)
  | _ => cases hd

end expiries

/-! ### The clock (R42) -/

theorem foldl_min_le (l : List Nat) (a : Nat) : l.foldl min a ≤ a ∧ (∀ b ∈ l, l.foldl min a ≤ b) ∧
    (l.foldl min a = a ∨ l.foldl min a ∈ l) := by
  induction l generalizing a with
  | nil => exact ⟨Nat.le_refl a, nofun, .inl rfl⟩
  | cons b l ih =>
    obtain ⟨hle, hall, hmem⟩ := ih (min a b)
    rw [List.foldl_cons]
    refine ⟨by omega, fun c hc => ?_, ?_⟩
    · rcases List.mem_cons.1 hc with rfl | hc
      · omega
      · exact hall c hc
    · rcases hmem with h | h
      · rcases Nat.le_total a b with hab | hab
        · exact .inl (by omega)
        · exact .inr (List.mem_cons.2 (.inl (by omega)))
      · exact .inr (List.mem_cons_of_mem _ h)

section clock
variable (s : State)

theorem mem_remaining {n : Nat} : n ∈ (allPorts.filterMap fun p => (s.store.port p).remaining) ↔
    ∃ p x, (s.store.port p).tx = some x ∧ x.left = n := by
  rw [List.mem_filterMap]
  refine ⟨fun ⟨p, _, h⟩ => ?_, fun ⟨p, x, hx, hn⟩ => ⟨p, by cases p <;> decide, ?_⟩⟩
  · obtain ⟨x, hx, hn⟩ := Option.map_eq_some_iff.1 h
    exact ⟨p, x, hx, hn⟩
  · exact Option.map_eq_some_iff.2 ⟨x, hx, hn⟩

/-- The wait is the least of the byte times to the millisecond and of each transmission. -/
theorem wait_least : s.wait ≤ 1250000 - s.lineTime ∧ (∀ p x, (s.store.port p).tx = some x → s.wait ≤ x.left) ∧
    (s.wait = 1250000 - s.lineTime ∨ ∃ p x, (s.store.port p).tx = some x ∧ s.wait = x.left) := by
  obtain ⟨hle, hall, hmem⟩ := foldl_min_le (allPorts.filterMap fun p => (s.store.port p).remaining)
    (1250000 - s.lineTime)
  refine ⟨hle, fun p x hx => hall _ ((mem_remaining s).2 ⟨p, x, hx, rfl⟩), hmem.imp_right fun h => ?_⟩
  obtain ⟨p, x, hx, hn⟩ := (mem_remaining s).1 h
  exact ⟨p, x, hx, hn.symm⟩

theorem mem_completions {i : Instr} : i ∈ s.completions ↔ ∃ p x, i = .transmissionCompletion p ∧
    (s.store.port p).tx = some x ∧ x.left = 0 := by
  have hport : ∀ p, (s.store.port p).remaining = some 0 ↔ ∃ x, (s.store.port p).tx = some x ∧ x.left = 0 := fun p =>
    Option.map_eq_some_iff
  unfold State.completions
  rw [List.mem_filterMap]
  refine ⟨fun ⟨p, _, h⟩ => ?_, fun ⟨p, x, hi, hx⟩ => ⟨p, by cases p <;> decide, ?_⟩⟩
  · split at h
    next hr =>
      obtain ⟨x, hx⟩ := (hport p).1 hr
      injection h with h
      exact ⟨p, x, h.symm, hx⟩
    next => cases h
  · rw [if_pos ((hport p).2 ⟨x, hx⟩), hi]

theorem completions_nodup : s.completions.Nodup := by
  refine List.Nodup.filterMap (fun p q i hp hq => ?_) (by decide)
  split at hp
  · split at hq
    · cases hp
      cases hq
      rfl
    · cases hq
  · cases hp

/-- Line time moves by the wait, and quay time by one millisecond when it is full. -/
theorem pass_eq {n : Nat} (h : s.lineTime + n ≤ 1250000) : ∃ quayTime lineTime, s.pass n = { s with
      store := { s.store with ports := s.store.ports.map fun p => p.after n }
      quayTime := quayTime, lineTime := lineTime } ∧
    ((quayTime = s.quayTime ∧ lineTime = s.lineTime + n ∧ lineTime < 1250000) ∨
      (quayTime = s.quayTime + 1 ∧ lineTime = 0 ∧ s.lineTime + n = 1250000)) := by
  unfold State.pass
  by_cases hn : s.lineTime + n < 1250000
  · exact ⟨_, _, if_pos hn, .inl ⟨rfl, rfl, hn⟩⟩
  · exact ⟨_, _, if_neg hn, .inr ⟨rfl, rfl, by omega⟩⟩

end clock

theorem step_idle {s : State} (h : s.pending = []) : step s = .next s.idle := by
  unfold step
  simp only [h]

end Sys2Proof.Machine

section
open Sys2Proof Sys2Proof.Machine

/-- Settles O3: the branches of what the part does of itself, the deadlines behind an expiry, and the least wait. -/
theorem idlePartActsOfItself : Obligations.IdlePartActsOfItself := by
  intro s hq
  have hidle := step_idle hq
  refine ⟨fun hp => hidle.trans (congrArg _ (if_pos hp)), fun hp => ?_, fun hc => ⟨fun i hi => dueExpiry_some hc hi,
    fun hn i d hd => dueExpiry_none hc hn hd, fun h => ?_⟩, wait_least s⟩
  · have hidle : step s = .next _ := hidle.trans (congrArg _ (if_neg (by rw [hp]; decide)))
    refine ⟨fun e c he hc => ?_, fun q rest he hr => ?_, fun he hr => ⟨fun i hi => ?_, fun hi hl => ?_⟩⟩
    · rw [hidle]
      simp only [he, nextCommand, hc]
    · rw [hidle]
      simp only [he, hr, beginRequest]
    · rw [hidle]
      simp only [he, hr, hi]
    · obtain ⟨hle, -, -⟩ := wait_least s
      obtain ⟨quayTime, lineTime, hpass, htime⟩ := pass_eq s (n := s.wait) (by omega)
      refine ⟨s.tick, ?_, ?_, ?_, fun p => ?_, completions_nodup _, fun i => mem_completions _⟩
      · rw [hidle]
        simp only [he, hr, hi]
      · unfold State.tick
        rw [hpass]
      · unfold State.tick
        rw [hpass]
        exact htime
      · unfold State.tick
        rw [hpass]
        exact FrameStore.port_mapPorts ..
  · cases hd : s.dueExpiry with
    | none => rfl
    | some i =>
      obtain ⟨d, hd, hr⟩ := dueExpiry_some hc hd
      rw [h i d hd] at hr
      cases hr

end

/-! PROOFS. The Frame Store at a warm restart (R45). -/

namespace Sys2Proof.Machine

/-! ### What the flush of a port leaves -/

/-- A port whose traffic is cut off, the spared reply aside, and whose turn is reset (R45). -/
def PortState.flushed (v : PortState) : PortState :=
  { v with turn := 3, credit := 0, tx := v.tx.filter fun x => x.entry.spared }

/-- The number of frames of a class that the flush of a port cuts off in transmission. -/
def PortState.cutFrames (v : PortState) (c : Class) : Nat :=
  v.tx.elim 0 fun x => if x.cls = c ∧ x.entry.spared = false then 1 else 0

/-- A queue without its entries but the spared reply, where some frames selected from it were cut off too (R45). -/
def Queue.purged (q : Queue) (cut : Nat) : Queue :=
  { q with
    entries := q.entries.filter QueueEntry.spared
    flushed := q.flushed + BitVec.ofNat 32 ((q.entries.filter fun e => !e.spared).length + cut) }

section flush
variable (st : FrameStore) (p q : Port)

theorem FrameStore.port_resetTurn : (st.resetTurn p).port q =
    if q = p then { st.port p with turn := 3, credit := 0 } else st.port q := FrameStore.port_setPort ..

/-- The transmission on a port, unless it is the spared reply, is cut off. -/
def FrameStore.cutUnspared : FrameStore := if (st.port p).sparesTx then st else st.cutOff p

theorem FrameStore.flushPort_eq :
    st.flushPort p = ((st.cutUnspared p).dropAt p fun e => !e.spared).resetTurn p := rfl

theorem PortState.sparesTx_eq (v : PortState) : v.sparesTx = v.tx.elim false fun x => x.entry.spared := by
  unfold PortState.sparesTx
  cases v.tx <;> rfl

theorem FrameStore.port_cutUnspared : (st.cutUnspared p).port q =
    if q = p then { st.port p with tx := (st.port p).tx.filter fun x => x.entry.spared } else st.port q := by
  have hsame : ∀ {o}, (st.port p).tx = o → { st.port p with tx := o } = st.port p := fun h => by rw [← h]
  rw [FrameStore.cutUnspared, PortState.sparesTx_eq]
  cases h : (st.port p).tx with
  | none => exact FrameStore.port_cutOff ..
  | some x =>
    rw [Option.elim_some, Option.filter_some]
    cases x.entry.spared with
    | true =>
      rw [if_pos rfl, if_pos rfl, hsame h]
      split
      next e => rw [e]
      next => rfl
    | false => exact FrameStore.port_cutOff ..

theorem FrameStore.queue_cutUnspared (c : Class) : (st.cutUnspared p).queue q c = if q = p then { st.queue p c with
    flushed := (st.queue p c).flushed + BitVec.ofNat 32 ((st.port p).cutFrames c) } else st.queue q c := by
  rw [FrameStore.cutUnspared, PortState.sparesTx_eq, PortState.cutFrames]
  cases h : (st.port p).tx with
  | none =>
    refine (FrameStore.queue_cutOff ..).trans ?_
    rw [PortState.sending, h]
    rfl
  | some x =>
    rw [Option.elim_some, Option.elim_some]
    cases x.entry.spared with
    | true =>
      rw [if_pos rfl]
      split
      next e => rw [e]; simp
      next => rfl
    | false =>
      refine (FrameStore.queue_cutOff ..).trans ?_
      rw [PortState.sending, h]
      simp

theorem FrameStore.noCell_flushPort : (st.flushPort p).noCell = st.noCell := by
  rw [FrameStore.flushPort_eq, FrameStore.resetTurn, FrameStore.setPort_noCell, FrameStore.noCell_dropAt,
    FrameStore.cutUnspared]
  split
  · rfl
  · exact FrameStore.noCell_cutOff ..

theorem FrameStore.port_flushPort :
    (st.flushPort p).port q = if q = p then (st.port p).flushed else st.port q := by
  rw [FrameStore.flushPort_eq, FrameStore.port_resetTurn, FrameStore.port_dropAt, FrameStore.port_dropAt,
    FrameStore.port_cutUnspared, FrameStore.port_cutUnspared, if_pos rfl]
  split
  · rfl
  · rfl

theorem FrameStore.queue_flushPort (c : Class) : (st.flushPort p).queue q c =
    if q = p then (st.queue p c).purged ((st.port p).cutFrames c) else st.queue q c := by
  rw [FrameStore.flushPort_eq, FrameStore.resetTurn, FrameStore.queue_setPort, FrameStore.queue_dropAt,
    FrameStore.queue_cutUnspared]
  split
  next h =>
    rw [Queue.without, Queue.purged]
    simp only [Bool.not_not, BitVec.ofNat_add, BitVec.add_assoc]
    rw [BitVec.add_comm (BitVec.ofNat 32 ((st.port p).cutFrames c))]
  next => rfl

theorem FrameStore.noCell_flushed : st.flushed.noCell = st.noCell := by
  simp only [FrameStore.flushed, allPorts, List.foldl_cons, List.foldl_nil, FrameStore.noCell_flushPort]

theorem FrameStore.port_flushed : st.flushed.port p = (st.port p).flushed := by
  cases p <;> simp [FrameStore.flushed, allPorts, FrameStore.port_flushPort]

theorem FrameStore.queue_flushed (c : Class) :
    st.flushed.queue p c = (st.queue p c).purged ((st.port p).cutFrames c) := by
  cases p <;> simp [FrameStore.flushed, allPorts, FrameStore.queue_flushPort, FrameStore.port_flushPort]

end flush

/-! ### The store before the yard port selects -/

theorem QueueEntry.spared_iff (e : QueueEntry) : e.spared = true ↔ e.origin = .restartReply := by
  simp [QueueEntry.spared]

theorem QueueEntry.settled_eq (e : QueueEntry) :
    e.settled = if e.origin = .restartReply then { e with origin := .reply } else e :=
  if_congr e.spared_iff rfl rfl

theorem QueueEntry.settled_frame (e : QueueEntry) : e.settled.frame = e.frame := by
  unfold QueueEntry.settled; split <;> rfl

/-- The store with its least free mark at the free count (R45). -/
def FrameStore.marked (st : FrameStore) : FrameStore := { st with least := st.free }

/-- The store of a warm restart before the yard port selects (R45). -/
def FrameStore.restartCleared (st : FrameStore) : FrameStore := st.flushed.marked.settleReply

section cleared
variable (st : FrameStore) (p : Port) (c : Class)

theorem FrameStore.restarted_eq_select (settings : Table Nat) :
    st.restarted settings = st.restartCleared.select settings .y := rfl

theorem FrameStore.port_marked : st.marked.port p = st.port p := rfl

theorem FrameStore.queue_marked : st.marked.queue p c = st.queue p c := rfl

theorem FrameStore.held_marked : st.marked.held = st.held := rfl

theorem FrameStore.port_settleReply : st.settleReply.port p = if p = .y then
    { st.port .y with tx := (st.port .y).tx.map fun x => { x with entry := x.entry.settled } } else st.port p :=
  FrameStore.port_setPort ..

theorem FrameStore.queue_settleReply : st.settleReply.queue p c = if p = .y ∧ c = 1 then
    { st.queue .y 1 with entries := (st.queue .y 1).entries.map QueueEntry.settled } else st.queue p c :=
  FrameStore.queue_setQueue ..

theorem FrameStore.port_restartCleared : st.restartCleared.port p = { st.port p with
    turn := 3, credit := 0
    tx := ((st.port p).tx.filter fun x => x.entry.spared).map fun x =>
      if p = .y then { x with entry := x.entry.settled } else x } := by
  rw [FrameStore.restartCleared, FrameStore.port_settleReply, FrameStore.port_marked, FrameStore.port_marked,
    FrameStore.port_flushed, FrameStore.port_flushed]
  by_cases h : p = .y
  · simp [h, PortState.flushed]
  · simp [h, PortState.flushed]

theorem FrameStore.queue_restartCleared : st.restartCleared.queue p c = { st.queue p c with
    entries := if p = .y ∧ c = 1 then ((st.queue p c).entries.filter QueueEntry.spared).map QueueEntry.settled
      else (st.queue p c).entries.filter QueueEntry.spared
    flushed := (st.queue p c).flushed + BitVec.ofNat 32
      (((st.queue p c).entries.filter fun e => !e.spared).length + (st.port p).cutFrames c) } := by
  rw [FrameStore.restartCleared, FrameStore.queue_settleReply, FrameStore.queue_marked, FrameStore.queue_marked,
    FrameStore.queue_flushed, FrameStore.queue_flushed]
  by_cases h : p = .y ∧ c = 1
  · rw [if_pos h, if_pos h, h.1, h.2]
    rfl
  · rw [if_neg h, if_neg h]
    rfl

theorem FrameStore.whole_restartCleared : st.restartCleared.free + st.restartCleared.held = st.free + st.held := by
  have hflush : StoreKeeps (fun _ _ _ => True) (.all 0) st st.flushed := .foldl _ (.flushPort _ _) allPorts st
  have hsettle := (StoreKeeps.settleReply (may := fun _ _ _ => True) trivial (.all 0) st.flushed.marked).whole
  rw [FrameStore.held_marked] at hsettle
  exact hsettle.trans hflush.whole

theorem FrameStore.settleReply_least : st.settleReply.least = st.least := rfl

theorem FrameStore.settleReply_free : st.settleReply.free = st.free := rfl

theorem FrameStore.settleReply_noCell : st.settleReply.noCell = st.noCell := rfl

theorem FrameStore.least_restartCleared : st.restartCleared.least = st.restartCleared.free := by
  rw [FrameStore.restartCleared, FrameStore.settleReply_least, FrameStore.settleReply_free, FrameStore.marked]

theorem FrameStore.noCell_restartCleared : st.restartCleared.noCell = st.noCell := by
  rw [FrameStore.restartCleared, FrameStore.settleReply_noCell, FrameStore.marked, FrameStore.noCell_flushed]

end cleared

/-! ### What a selection and a hold order leave of the store -/

/-- What a port counts, and its link state. -/
def PortState.record (v : PortState) : Bool × Count16 × Count16 × Count32 × Count32 :=
  (v.up, v.receiveErrors, v.linkLosses, v.framesSent, v.bytesSent)

/-- The ports keep their records, no frame is lost for want of a cell, and what joins a queue is a hold order. -/
def FrameStore.Orders (st st' : FrameStore) : Prop :=
  st'.noCell = st.noCell ∧ (∀ p, (st'.port p).record = (st.port p).record) ∧
    ∀ p c, (st.queue p c).Ordered (st'.queue p c)

namespace FrameStore.Orders
variable {st st' st'' : FrameStore}

theorem refl (st : FrameStore) : st.Orders st := ⟨rfl, fun _ => rfl, fun _ _ => .refl _⟩

theorem trans (h : st.Orders st') (k : st'.Orders st'') : st.Orders st'' := by
  obtain ⟨h1, h2, h3⟩ := h
  obtain ⟨k1, k2, k3⟩ := k
  exact ⟨k1.trans h1, fun p => (k2 p).trans (h2 p), fun p c => (h3 p c).trans (k3 p c)⟩

theorem select (st : FrameStore) (settings : Table Nat) (q : Port) : st.Orders (st.select settings q) := by
  have hqueue := fun p c => Queue.Ordered.select st settings q p c
  rcases st.select_cases settings q with h | ⟨c, e, rest, turn, credit, -, -, -, -, h⟩
  · rw [h]
    exact .refl st
  · refine ⟨by rw [h]; rfl, fun p => ?_, hqueue⟩
    rw [h, FrameStore.port_setPort]
    split
    next hp => rw [hp]; rfl
    next => rfl

theorem offer (settings : Table Nat) (p : Port) (c : Class) {e : QueueEntry} (h : e.origin = .holdOrder) :
    st.Orders (st.offer settings p c e).2 := by
  have hqueue := fun q d => Queue.Ordered.offer (st := st) (p := q) (q := p) (e := e) (fun _ => h) settings d c
  rcases st.offer_cases settings p c e with ⟨cause, -, hr⟩ | ⟨-, ha⟩
  · rw [hr] at hqueue ⊢
    exact ⟨rfl, fun _ => rfl, hqueue⟩
  · rw [ha] at hqueue ⊢
    obtain ⟨h1, h2, -⟩ := select ((st.take e.blocks).setQueue p c { (st.queue p c).counted .admitted with
      entries := ((st.queue p c).counted .admitted).entries ++ [e] }) settings p
    exact ⟨h1, h2, hqueue⟩

theorem offerOnCells (f : Frame) (cells : List Cell) (s : State) :
    s.store.Orders (offerOnCells .holdOrder f cells s).2.store := by
  induction cells generalizing s with
  | nil => exact .refl _
  | cons k cells ih =>
    unfold Machine.offerOnCells
    split
    · exact (offer _ _ _ rfl).trans (ih _)
    · exact ih s

theorem holdAttempt (l : Link) (s : State) : s.store.Orders (holdAttempt l s).store := by
  rw [holdAttempt_eq l s rfl]
  split
  · exact .refl _
  · exact .offerOnCells ..

end FrameStore.Orders

end Sys2Proof.Machine

/-! PROOFS. Restart and the warm restart (O59). -/

namespace Sys2Proof.Machine

/-! ### The links at a warm restart (R73, R75) -/

section links
variable {l m : Link} {s : State}

theorem restartLink_idle (h : (s.link l).state = .idle) : restartLink l s = s := by
  unfold restartLink
  simp only [h]

theorem restartLink_held (h : (s.link l).isHeld) : restartLink l s = s.setLink l (s.link l).stillHeld := by
  unfold restartLink
  rcases h with h | h <;> simp only [h]

theorem restartLink_working (h : (s.link l).state = .arming ∨ (s.link l).isWorking) : restartLink l s =
    ({ s with paths := if (s.link l).commitPending then s.paths.commit l else s.paths } : State).setLink l
      (s.link l).committed.armed := by
  have hlink : (applyPending l s).link l = (s.link l).committed := by rw [applyPending_link, if_pos rfl]
  rw [← applyPending_setLink, ← hlink]
  unfold restartLink
  rcases h with h | h | h <;> simp only [h]

/-- A link is IDLE, held, or in one of the states that a warm restart takes to ARMING. -/
theorem CraneLink.restart_cases (k : CraneLink) :
    k.state = .idle ∨ k.isHeld ∨ k.state = .arming ∨ k.isWorking := by
  unfold CraneLink.isHeld CraneLink.isWorking
  cases k.state <;> simp

theorem pathsOf_setLink_other (h : m ≠ l) (k : CraneLink) : (s.setLink m k).pathsOf l = s.pathsOf l := by
  rw [State.pathsOf, State.link_setLink, if_neg (Ne.symm h)]
  rfl

theorem pathsOf_setLink_same (k : CraneLink) : (s.setLink l k).pathsOf l = (k, (s.pathsOf l).2) := by
  rw [State.pathsOf, State.link_setLink, if_pos rfl]
  rfl

/-- The active entries of a link once a pending commit of some link has been applied. -/
theorem pathsOf_pending (s : State) (l m : Link) (pending : Bool) :
    ({ s with paths := if pending then s.paths.commit m else s.paths } : State).pathsOf l = (s.link l, fun g =>
      if l = m ∧ pending = true then s.paths.staged.get (pathIndex l g) else s.paths.active.get (pathIndex l g),
      s.paths.staged) := by
  refine congrArg (Prod.mk _) (congrArg₂ Prod.mk (funext fun g => Paths.get_pending ..) ?_)
  show (if pending then s.paths.commit m else s.paths).staged = s.paths.staged
  rw [Paths.pending_eq]

theorem restartLink_pathsOf_other (h : m ≠ l) (s : State) : (restartLink m s).pathsOf l = s.pathsOf l := by
  rcases (s.link m).restart_cases with hm | hm | hm
  · rw [restartLink_idle hm]
  · rw [restartLink_held hm, pathsOf_setLink_other h]
  · rw [restartLink_working hm, pathsOf_setLink_other h, pathsOf_pending]
    simp only [Ne.symm h, false_and, if_false]
    rfl

theorem restartLink_pathsOf_working (h : (s.link l).state = .arming ∨ (s.link l).isWorking) :
    (restartLink l s).pathsOf l = ((s.link l).committed.armed, fun g =>
      if (s.link l).commitPending = true then s.paths.staged.get (pathIndex l g)
      else s.paths.active.get (pathIndex l g), s.paths.staged) := by
  rw [restartLink_working h, pathsOf_setLink_same, pathsOf_pending]
  simp only [true_and]

/-- The state of a warm restart before the hold orders of the links left in HOLD. -/
@[irreducible] def restartedLinks (s : State) : State := allLinks.foldl (fun s l => restartLink l s) (restartBlocks s)

theorem warmRestart_eq (s : State) :
    warmRestart s = allLinks.foldl (fun s l => restartHold l s) (restartedLinks s) := by
  unfold restartedLinks
  rfl

theorem restartBlocks_pathsOf (s : State) (l : Link) : (restartBlocks s).pathsOf l = s.pathsOf l := rfl

/-- What concerns a link is what the restart of that link makes of it. -/
theorem restartedLinks_pathsOf (s : State) (l : Link) :
    ∃ u : State, u.pathsOf l = s.pathsOf l ∧ (restartedLinks s).pathsOf l = (restartLink l u).pathsOf l :=
  have h := obs_foldl_of_mem (f := fun s l => restartLink l s) (obs := fun u => u.pathsOf l)
    (fun u _ hm => restartLink_pathsOf_other hm u) (List.pairwise_lt_finRange 16) (List.mem_finRange l) (restartBlocks s)
  ⟨_, h.1.trans (restartBlocks_pathsOf s l), by unfold restartedLinks; exact h.2⟩

theorem State.pathsOf_link {u : State} (h : u.pathsOf l = s.pathsOf l) : u.link l = s.link l := congrArg Prod.fst h

theorem restartedLinks_idle (h : (s.link l).state = .idle) : (restartedLinks s).pathsOf l = s.pathsOf l := by
  obtain ⟨u, hu, hr⟩ := restartedLinks_pathsOf s l
  rw [hr, restartLink_idle (State.pathsOf_link hu ▸ h), hu]

theorem restartedLinks_held (h : (s.link l).isHeld) :
    (restartedLinks s).pathsOf l = ((s.link l).stillHeld, (s.pathsOf l).2) := by
  obtain ⟨u, hu, hr⟩ := restartedLinks_pathsOf s l
  have hlink := State.pathsOf_link hu
  rw [hr, restartLink_held (hlink ▸ h), pathsOf_setLink_same, hu, hlink]

theorem restartedLinks_working (h : (s.link l).state = .arming ∨ (s.link l).isWorking) :
    (restartedLinks s).pathsOf l = ((s.link l).committed.armed, fun g =>
      if (s.link l).commitPending = true then s.paths.staged.get (pathIndex l g)
      else s.paths.active.get (pathIndex l g), s.paths.staged) := by
  obtain ⟨u, hu, hr⟩ := restartedLinks_pathsOf s l
  have hlink := State.pathsOf_link hu
  have hparts : (fun g => u.paths.active.get (pathIndex l g)) = (fun g => s.paths.active.get (pathIndex l g)) ∧
      u.paths.staged = s.paths.staged := Prod.mk.inj (congrArg Prod.snd hu)
  obtain ⟨hactive, hstaged⟩ := hparts
  rw [hr, restartLink_pathsOf_working (hlink ▸ h), hlink, hstaged]
  refine congrArg (Prod.mk _) (congrArg (Prod.mk · _) (funext fun g => ?_))
  rw [congrFun hactive g]

/-- Before the hold orders only the links and the active path entries have moved since the blocks were restarted. -/
theorem restartedLinks_commitActs (s : State) : (restartBlocks s).CommitActs (restartedLinks s) := by
  unfold restartedLinks
  refine foldl_links_rel (R := State.CommitActs) (fun _ => rfl) State.CommitActs.trans (fun u l => ?_) _ _
  rcases (u.link l).restart_cases with h | h | h
  · rw [restartLink_idle h]
    rfl
  · rw [restartLink_held h]
    rfl
  · rw [restartLink_working h, Paths.pending_eq]
    rfl

end links

/-! ### The hold orders of a warm restart (R73) -/

/-- What the hold order of a restarted link changes. -/
def State.OrderActs (s t : State) : Prop :=
  t = { s with store := t.store, links := t.links } ∧ s.store.Orders t.store

theorem State.OrderActs.trans {s t u : State} (h : s.OrderActs t) (k : t.OrderActs u) : s.OrderActs u := by
  obtain ⟨h1, h2⟩ := h
  obtain ⟨k1, k2⟩ := k
  refine ⟨?_, h2.trans k2⟩
  rw [k1, h1]

/-- A hold order of a link is attempted and the next one armed at a time. -/
def State.orderAgain (s : State) (l : Link) (next : QuayTime) : State :=
  (holdAttempt l s).setLink l { (holdAttempt l s).link l with nextHold := some next }

theorem State.orderAgain_orderActs (s : State) (l : Link) (next : QuayTime) : s.OrderActs (s.orderAgain l next) := by
  have hstore : s.store.Orders (s.orderAgain l next).store := FrameStore.Orders.holdAttempt l s
  refine ⟨?_, hstore⟩
  unfold State.orderAgain
  obtain ⟨st, k, h⟩ := holdAttempt_frame l s
  rw [h]
  rfl

section holds
variable {l m : Link} {s u : State}

theorem holdAttempt_link_config (l : Link) (s : State) : ((holdAttempt l s).link l).config = (s.link l).config := by
  rcases holdAttempt_link_cases l s with h | h <;> rw [h] <;> rfl

theorem restartHold_hold (h : (u.link l).state = .hold) :
    restartHold l u = u.orderAgain l (later u.quayTime (u.link l).config.period) := by
  refine (if_pos h).trans ?_
  rw [State.orderAgain, ← holdAttempt_quayTime l u, ← holdAttempt_link_config l u]

theorem restartHold_other (h : (u.link l).state ≠ .hold) : restartHold l u = u := if_neg h

theorem orderAgain_link_other (h : m ≠ l) (u : State) (next : QuayTime) : (u.orderAgain m next).link l = u.link l := by
  rw [State.orderAgain, State.link_setLink, if_neg (Ne.symm h), holdAttempt_link, if_neg (Ne.symm h)]

theorem restartHold_orderActs (l : Link) (u : State) : u.OrderActs (restartHold l u) := by
  by_cases h : (u.link l).state = .hold
  · rw [restartHold_hold h]
    exact u.orderAgain_orderActs ..
  · rw [restartHold_other h]
    exact ⟨rfl, .refl _⟩

theorem State.OrderActs.quayTime (h : s.OrderActs u) : u.quayTime = s.quayTime := by
  rw [h.1]

theorem restartHold_link_other (h : m ≠ l) (u : State) : (restartHold m u).link l = u.link l := by
  by_cases hm : (u.link m).state = .hold
  · rw [restartHold_hold hm, orderAgain_link_other h]
  · rw [restartHold_other hm]

theorem warmRestart_orderActs (s : State) : (restartedLinks s).OrderActs (warmRestart s) := by
  rw [warmRestart_eq]
  exact foldl_links_rel (R := State.OrderActs) (fun _ => ⟨rfl, .refl _⟩) State.OrderActs.trans
    (fun u l => restartHold_orderActs l u) _ _

/-- A link's record after the hold orders is what its own made of it. -/
theorem warmRestart_link (s : State) (l : Link) : ∃ u : State, u.link l = (restartedLinks s).link l ∧
    u.quayTime = (restartedLinks s).quayTime ∧ (warmRestart s).link l = (restartHold l u).link l := by
  obtain ⟨hbefore, hafter⟩ := obs_foldl_of_mem (f := fun s l => restartHold l s) (obs := fun u => u.link l)
    (links := allLinks) (fun u _ hm => restartHold_link_other hm u) (List.pairwise_lt_finRange 16)
    (List.mem_finRange l) (restartedLinks s)
  rw [← warmRestart_eq] at hafter
  refine ⟨_, hbefore, State.OrderActs.quayTime ?_, hafter⟩
  exact foldl_links_rel (R := State.OrderActs) (fun _ => ⟨rfl, .refl _⟩) State.OrderActs.trans
    (fun u l => restartHold_orderActs l u) _ _

theorem warmRestart_link_other (h : ((restartedLinks s).link l).state ≠ .hold) :
    (warmRestart s).link l = (restartedLinks s).link l := by
  obtain ⟨u, hu, -, ht⟩ := warmRestart_link s l
  rw [ht, restartHold_other (by rwa [hu]), hu]

theorem warmRestart_link_hold (h : ((restartedLinks s).link l).state = .hold) : ∃ v,
    (v = ((restartedLinks s).link l).defer ∨ v = ((restartedLinks s).link l).ordered) ∧
    (warmRestart s).link l = { v with
      nextHold := some (later (restartedLinks s).quayTime ((restartedLinks s).link l).config.period) } := by
  obtain ⟨u, hu, hq, ht⟩ := warmRestart_link s l
  have hcases := holdAttempt_link_cases l u
  have hs : (u.link l).state = .hold := by rw [hu]; exact h
  rw [hu] at hcases
  refine ⟨(holdAttempt l u).link l, hcases, ?_⟩
  rw [ht, restartHold_hold hs, State.orderAgain, State.link_setLink, if_pos rfl, hu, hq]

/-- The hold orders are those of the links left in HOLD, each with the next one armed a period on. -/
theorem foldl_restartHold {b : State} {links : List Link} (hn : links.Nodup) (hq : u.quayTime = s.quayTime)
    (hl : ∀ l ∈ links, u.link l = b.link l ∧ (b.link l).config = (s.link l).config) :
    links.foldl (fun u l => restartHold l u) u =
      (links.filter fun l => decide ((b.link l).state = .hold)).foldl (fun u l =>
        u.orderAgain l (later s.quayTime (s.link l).config.period)) u := by
  induction links generalizing u with
  | nil => rfl
  | cons l links ih =>
    obtain ⟨hnotin, hn⟩ := List.nodup_cons.1 hn
    obtain ⟨hlink, hconfig⟩ := hl l List.mem_cons_self
    have hrest : ∀ m ∈ links, (restartHold l u).link m = b.link m ∧ (b.link m).config = (s.link m).config := fun m hm => by
      obtain ⟨h1, h2⟩ := hl m (List.mem_cons_of_mem _ hm)
      refine ⟨(restartHold_link_other (fun e => hnotin ?_) u).trans h1, h2⟩
      rwa [e]
    rw [List.foldl_cons, ih hn ((restartHold_orderActs l u).quayTime.trans hq) hrest]
    by_cases hs : (b.link l).state = .hold
    · rw [List.filter_cons_of_pos (by simpa using hs), List.foldl_cons, restartHold_hold (by rw [hlink, hs]), hlink,
        hconfig, hq]
    · rw [List.filter_cons_of_neg (by simpa using hs), restartHold_other (by rwa [hlink])]

end holds

/-! ### The warm restart as a whole (R190) -/

section whole

theorem State.CommitActs.store {s t : State} (h : s.CommitActs t) : t.store = s.store := by
  rw [State.CommitActs] at h
  rw [h]

theorem State.CommitActs.quayTime {s t : State} (h : s.CommitActs t) : t.quayTime = s.quayTime := by
  rw [State.CommitActs] at h
  rw [h]

theorem State.OrderActs.paths {s t : State} (h : s.OrderActs t) : t.paths = s.paths := by
  rw [h.1]

/-- A state before some hold orders differs from that after them in the store and the links. -/
theorem State.OrderActs.before {s t : State} (h : s.OrderActs t) : s = { t with store := s.store, links := s.links } := by
  rw [h.1]

variable (s : State)

theorem restartBlocks_store : (restartBlocks s).store = s.store.restartCleared.select s.settings .y := by
  rw [← FrameStore.restarted_eq_select]
  unfold restartBlocks
  dsimp only

theorem restartBlocks_quayTime : (restartBlocks s).quayTime = s.quayTime := rfl

theorem restartedLinks_store : (restartedLinks s).store = s.store.restartCleared.select s.settings .y :=
  (restartedLinks_commitActs s).store.trans (restartBlocks_store s)

theorem restartedLinks_quayTime : (restartedLinks s).quayTime = s.quayTime :=
  (restartedLinks_commitActs s).quayTime.trans (restartBlocks_quayTime s)

theorem warmRestart_orders : s.store.restartCleared.Orders (warmRestart s).store := by
  obtain ⟨-, h⟩ := warmRestart_orderActs s
  rw [restartedLinks_store] at h
  exact (FrameStore.Orders.select ..).trans h

/-- What a warm restart changes (R190). -/
theorem warmRestart_frame : ∃ store : FrameStore, ∃ links active, warmRestart s = { s with
      classifier := s.classifier.restarted s.quayTime
      store := { s.store with ports := store.ports, queues := store.queues, free := store.free, least := store.least }
      links := links, paths := { s.paths with active := active }
      coverage := { s.coverage with entries := s.coverage.entries.map CoverEntry.restarted }
      registry := { s.registry with slots := s.registry.slots.map ReeferSlot.restarted, changeList := [] }
      summary := { s.summary with passing := false, timer := later s.quayTime (s.setting 48 * 1000) }
      notices := { s.notices with queue := [], pacing := none }
      capture := { s.capture with state := .off, buffer := [], triggerCount := 0, postCount := 0, traceCount := 0 }
      endpoint := { s.endpoint with requests := [], executing := none } } := by
  have hcell : (warmRestart s).store.noCell = s.store.noCell :=
    (warmRestart_orders s).1.trans (FrameStore.noCell_restartCleared ..)
  have hacts := State.CraneActs.warmRestart s
  rw [State.CraneActs] at hacts
  generalize hstore : (warmRestart s).store = store at hcell hacts
  obtain ⟨ports, queues, free, least, noCell⟩ := store
  obtain rfl : noCell = s.store.noCell := hcell
  exact ⟨⟨ports, queues, free, least, s.store.noCell⟩, (warmRestart s).links, (warmRestart s).paths.active, hacts⟩

end whole

/-! ### What a warm restart makes of each record -/

section records
variable (s : State)

theorem warmRestart_bearer (i : Nat) : (warmRestart s).bearer i =
    if i = 0 then .cold else (s.bearer i).restarted s.quayTime := by
  obtain ⟨_, _, _, ht⟩ := warmRestart_frame s
  rw [ht]
  refine (Table.get_set ..).trans (if_congr Iff.rfl rfl ?_)
  exact Table.get_map ..

theorem warmRestart_cover (i : Nat) : (warmRestart s).cover i = (s.cover i).restarted := by
  obtain ⟨_, _, _, ht⟩ := warmRestart_frame s
  rw [ht]
  exact Table.get_map ..

theorem warmRestart_slot (i : Slot) : (warmRestart s).slot i = (s.slot i).restarted := by
  obtain ⟨_, _, _, ht⟩ := warmRestart_frame s
  rw [ht]
  exact Table.get_map ..

theorem warmRestart_port_record (p : Port) : ((warmRestart s).store.port p).record = (s.store.port p).record := by
  obtain ⟨-, hrecord, -⟩ := warmRestart_orders s
  rw [hrecord p, FrameStore.port_restartCleared]
  rfl

theorem mem_restartCleared {p : Port} {c : Class} {e : QueueEntry}
    (he : e ∈ (s.store.restartCleared.queue p c).entries) :
    ∃ b ∈ (s.store.queue p c).entries, b.origin = .restartReply ∧ b.frame = e.frame := by
  have hspared : ∀ {b}, b ∈ (s.store.queue p c).entries.filter QueueEntry.spared →
      b ∈ (s.store.queue p c).entries ∧ b.origin = .restartReply := fun hb => by
    obtain ⟨hb, hs⟩ := List.mem_filter.1 hb
    exact ⟨hb, QueueEntry.spared_iff _ |>.1 hs⟩
  rw [FrameStore.queue_restartCleared] at he
  dsimp only at he
  split at he
  next =>
    obtain ⟨b, hb, rfl⟩ := List.mem_map.1 he
    obtain ⟨hmem, ho⟩ := hspared hb
    exact ⟨b, hmem, ho, b.settled_frame.symm⟩
  next =>
    obtain ⟨hmem, ho⟩ := hspared he
    exact ⟨e, hmem, ho, rfl⟩

end records

section linkRecords
variable {s : State} {l : Link}

theorem restartedLinks_link_idle (h : (s.link l).state = .idle) : (restartedLinks s).link l = s.link l :=
  State.pathsOf_link (restartedLinks_idle h)

theorem restartedLinks_link_held (h : (s.link l).isHeld) : (restartedLinks s).link l = (s.link l).stillHeld :=
  congrArg Prod.fst (restartedLinks_held h)

theorem restartedLinks_link_working (h : (s.link l).state = .arming ∨ (s.link l).isWorking) :
    (restartedLinks s).link l = (s.link l).committed.armed :=
  congrArg Prod.fst (restartedLinks_working h)

theorem restartedLinks_link_config (s : State) (l : Link) : ((restartedLinks s).link l).config = (s.link l).config := by
  rcases (s.link l).restart_cases with h | h | h
  · rw [restartedLinks_link_idle h]
  · rw [restartedLinks_link_held h]
    rfl
  · rw [restartedLinks_link_working h]
    rfl

/-- Only links that were held are in HOLD when the hold orders are attempted. -/
theorem restartedLinks_not_hold (h : ¬(s.link l).isHeld) : ((restartedLinks s).link l).state ≠ .hold := by
  rcases (s.link l).restart_cases with hi | hh | hw
  · rw [restartedLinks_link_idle hi, hi]
    decide
  · exact absurd hh h
  · rw [restartedLinks_link_working hw]
    exact CraneState.noConfusion

theorem warmRestart_link_of_not_held (h : ¬(s.link l).isHeld) : (warmRestart s).link l = (restartedLinks s).link l :=
  warmRestart_link_other (restartedLinks_not_hold h)

theorem warmRestart_link_held (h : (s.link l).isHeld) : ∃ v,
    (v = (s.link l).stillHeld.defer ∨ v = (s.link l).stillHeld.ordered) ∧
    (warmRestart s).link l = { v with nextHold := some (later s.quayTime (s.link l).config.period) } := by
  have hlink := restartedLinks_link_held h
  obtain ⟨v, hv, ht⟩ := warmRestart_link_hold (s := s) (l := l) (by rw [hlink]; rfl)
  rw [restartedLinks_quayTime, restartedLinks_link_config] at ht
  rw [hlink] at hv
  exact ⟨v, hv, ht⟩

theorem CraneLink.not_isHeld_of_idle {k : CraneLink} (h : k.state = .idle) : ¬k.isHeld := by
  unfold CraneLink.isHeld
  rw [h]
  decide

theorem State.pathsOf_active (s : State) (l : Link) (g : Segment) :
    (s.pathsOf l).2.1 g = s.paths.active.get (pathIndex l g) := rfl

theorem warmRestart_active (s : State) (l : Link) (g : Segment) :
    (warmRestart s).paths.active.get (pathIndex l g) = ((restartedLinks s).pathsOf l).2.1 g := by
  rw [(warmRestart_orderActs s).paths, State.pathsOf_active]

/-- The hold orders of a warm restart are those of the links left in HOLD, in rising order (R73). -/
theorem warmRestart_fold (s : State) : warmRestart s =
    ((List.finRange 16).filter fun l => decide (((restartedLinks s).link l).state = .hold)).foldl (fun u l =>
      u.orderAgain l (later s.quayTime (s.link l).config.period)) (restartedLinks s) := by
  rw [warmRestart_eq]
  exact foldl_restartHold (List.nodup_finRange 16) (restartedLinks_quayTime s)
    fun l _ => ⟨rfl, restartedLinks_link_config s l⟩

end linkRecords

/-! ### RESTART (R190) -/

section restart
variable {s : State}

theorem exec_restart_alone (h : s.alone) : exec .restart s = .next (warmRestart (s.ruled 13 .ok)) := by
  show execRestart s = _
  unfold execRestart orderRestart
  simp only [show s.endpoint.executing = none from h]
  rfl

theorem exec_restart_inRequest {e : Execution} (he : s.endpoint.executing = some e) (hc : e.cannotRun 0 = false) :
    exec .restart s = .next (warmRestart (endRequest .restartReply e.restarted (s.ruled 13 .ok))) := by
  show execRestart s = _
  unfold execRestart orderRestart
  simp only [he, hc]
  rfl

end restart

end Sys2Proof.Machine

section
open Sys2Proof Sys2Proof.Machine

/-- Settles O59: the blocks are restarted, then the links, and last the hold orders of those left in HOLD are offered. -/
theorem restartTakesEffect : Obligations.RestartTakesEffect := by
  refine ⟨fun s h => exec_restart_alone h, fun s e he hc => ?_, fun s => ?_⟩
  · intro results shown offered
    have hresults : e.restarted.results = results := (List.append_cons ..).trans rfl
    have hrequest : e.restarted.request = e.request := rfl
    have hend := endRequest_eq .restartReply e.restarted shown (a := offered) (by rw [hresults]; rfl)
    exact ⟨fun ha => by rw [exec_restart_inRequest he hc, hend.1 ha]; rfl,
      fun cause ha => by rw [exec_restart_inRequest he hc, hend.2 cause ha]; rfl⟩
  · intro t working
    obtain ⟨store, links, active, ht⟩ := warmRestart_frame s
    refine ⟨?_, warmRestart_bearer s 0, fun i hi => (warmRestart_bearer s i).trans (if_neg hi), warmRestart_cover s,
      warmRestart_slot s, fun p => ?_, fun p c e he => ?_, ⟨s.store.restartCleared, restartedLinks s, ?_⟩,
      fun l hl => ?_, fun l hl => ?_, fun l hl => ?_, fun l g => ⟨fun hl hp => ?_, fun hl => ?_⟩⟩
    · rw [show t = _ from ht]
      rfl
    · obtain ⟨h1, h2, h3, h4, h5⟩ : _ ∧ _ ∧ _ ∧ _ ∧ _ := by simpa [PortState.record] using warmRestart_port_record s p
      exact ⟨h1, h2, h3, h4, h5⟩
    · obtain ⟨-, -, hqueue⟩ := warmRestart_orders s
      exact ((hqueue p c).2 e he).elim (fun h => .inr (mem_restartCleared s h)) .inl
    · intro spared settled
      have hsettled : QueueEntry.settled = settled := funext QueueEntry.settled_eq
      have hspared : QueueEntry.spared = spared := rfl
      refine ⟨fun p => ?_, fun p c => ?_, FrameStore.whole_restartCleared _, FrameStore.least_restartCleared _,
        FrameStore.noCell_restartCleared _, ?_, fun l hl => (warmRestart_link_of_not_held hl).symm, fun l hl =>
        restartedLinks_link_held hl, warmRestart_fold s⟩
      · rw [FrameStore.port_restartCleared, hsettled]
        cases (s.store.port p).tx with
        | none => rfl
        | some x =>
          by_cases ho : x.entry.origin = .restartReply
          · by_cases hp : p = .y <;> simp [QueueEntry.spared, ho, hp]
          · simp [QueueEntry.spared, ho]
      · intro q
        rw [FrameStore.queue_restartCleared, hsettled, PortState.cutFrames, hspared]
        cases (s.store.port p).tx with
        | none => rfl
        | some x => simp [spared, q]
      · exact restartedLinks_store s ▸ (warmRestart_orderActs s).before
    · exact (warmRestart_link_of_not_held (CraneLink.not_isHeld_of_idle hl)).trans (restartedLinks_link_idle hl)
    · exact (warmRestart_link_of_not_held (CraneLink.not_isHeld_of_working hl)).trans (restartedLinks_link_working hl)
    · intro k
      obtain ⟨v, hv, hlink⟩ := warmRestart_link_held hl
      rw [show t.link l = _ from hlink]
      rcases hv with rfl | rfl
      · exact ⟨rfl, .inr ⟨rfl, rfl, rfl, rfl⟩⟩
      · exact ⟨rfl, .inl ⟨rfl, rfl, rfl, rfl⟩⟩
    · simp only [t]
      rw [warmRestart_active, restartedLinks_working hl]
      exact if_pos hp
    · simp only [t]
      rw [warmRestart_active]
      rcases (s.link l).restart_cases with hi | hh | hw
      · rw [restartedLinks_idle hi, State.pathsOf_active]
      · rw [restartedLinks_held hh]
        exact s.pathsOf_active l g
      · rw [restartedLinks_working hw]
        exact if_neg fun h => hl.elim (fun hn => hn hw) fun hn => by rw [h] at hn; cases hn

end
